-- ==== Sys2Proof/Word.lean ====
section
/-!
DEFINITION. The word types and the small closed name sets that both the bus operations and the state use.
Widths are those of spec/00_scope.md R12 and spec/10_state.md.
-/

namespace Sys2Proof

/-- One byte of a chip register, of memory or of a data bus. -/
abbrev Byte := BitVec 8

/-- A 4-bit colour index or colour-RAM nibble (R200, R940). -/
abbrev Nibble := BitVec 4

/-- The two CIA 6526 chips (R302: `c` = 0 is CIA1, `c` = 1 is CIA2). -/
inductive CiaId where
  | cia1
  | cia2
  deriving DecidableEq, Repr

/-- The two VIA 6522 chips of the drive (R303: `v` = 0 is VIA1, `v` = 1 is VIA2). -/
inductive ViaId where
  | via1
  | via2
  deriving DecidableEq, Repr

/-- Eight like things, one per sprite or one per pixel of a cycle, index 0 first. -/
structure Eight (α : Type) where
  e0 : α
  e1 : α
  e2 : α
  e3 : α
  e4 : α
  e5 : α
  e6 : α
  e7 : α
  deriving DecidableEq, Repr

end Sys2Proof
end

