-- ==== Sys2Proof/Config.lean ====
section
/-!
DEFINITION. What one run takes as fixed (spec/00_scope.md R10): the revisions, the open parameters
(`VicDelayedFields`, `NtscCycleTable`), the track lengths and the external ROM contents; and the free values
that stand for what the spec calls a draw ("any value").
-/

namespace Sys2Proof

/-- Memory contents: the cells that do not read as an unlisted address does (`Memory.unlisted`). -/
abbrev Memory := List Host.Cell

/-- R2, R3. -/
inductive VicRevision where
  | pal6569
  | ntsc6567
  deriving DecidableEq, Repr

/-- R3: the single value `CiaRevision` takes. -/
inductive CiaRevision where
  | mos6526
  deriving DecidableEq, Repr

/-- R411: what the host CPU may do while BA is low and AEC is not yet taken. -/
inductive CpuBaPolicy where
  | sourceLiteral
  | rdy6510
  deriving DecidableEq, Repr

/-- R10: the drive answers as device 8 or 9. -/
inductive DeviceNumber where
  | eight
  | nine
  deriving DecidableEq, Repr

/-- The VIC-II's readable and writable registers of R101, without those that are counters or latches
(raster line, light pen, interrupt and collision registers: they are fields of `Vic`).
The same shape serves as a mask: a set bit says that this register bit is in `VicDelayedFields` (R110, D5). -/
structure VicRegs where
  /-- `MxX`, 9 bits (offsets 0x00+2n and bit n of 0x10). -/
  mxX : Eight (BitVec 9)
  mxY : Eight Byte
  /-- 0x11: 6 ECM, 5 BMM, 4 DEN, 3 RSEL, 2-0 YSCROLL. -/
  cr1 : Byte
  mxe : Byte
  /-- 0x16: 5 RES, 4 MCM, 3 CSEL, 2-0 XSCROLL. -/
  cr2 : Byte
  mxye : Byte
  /-- 0x18: 7-4 VM, 3-1 CB. -/
  memptr : Byte
  mxdp : Byte
  mxmc : Byte
  mxxe : Byte
  ec : Nibble
  b0c : Nibble
  b1c : Nibble
  b2c : Nibble
  b3c : Nibble
  mm0 : Nibble
  mm1 : Nibble
  mxc : Eight Nibble
  deriving DecidableEq, Repr

/-- Every bit of every register 0: the reset registers (R101), and the empty delay mask. -/
def VicRegs.zero : VicRegs where
  mxX := ⟨0, 0, 0, 0, 0, 0, 0, 0⟩
  mxY := ⟨0, 0, 0, 0, 0, 0, 0, 0⟩
  cr1 := 0
  mxe := 0
  cr2 := 0
  mxye := 0
  memptr := 0
  mxdp := 0
  mxmc := 0
  mxxe := 0
  ec := 0
  b0c := 0
  b1c := 0
  b2c := 0
  b3c := 0
  mm0 := 0
  mm1 := 0
  mxc := ⟨0, 0, 0, 0, 0, 0, 0, 0⟩

/-- What the VIC does in phi1 of a cycle (R701 column "phi1"): `s2 n` is an i-access while sprite n's DMA is off. -/
inductive Phi1Slot where
  | r
  | i
  | g
  | p (n : Fin 8)
  | s2 (n : Fin 8)
  deriving DecidableEq, Repr

/-- What the VIC may do in phi2 of a cycle (R701 column "phi2"): `c` if the line is bad, `s1`/`s3` if sprite n's DMA is on. -/
inductive Phi2Slot where
  | cpu
  | c
  | s1 (n : Fin 8)
  | s3 (n : Fin 8)
  deriving DecidableEq, Repr

/-- One entry of the cycle table (R701). -/
structure CycleRow where
  phi1 : Phi1Slot
  phi2 : Phi2Slot
  /-- The sprites whose BA window holds this cycle, one bit each (R730). -/
  baSprites : Byte
  /-- A bad line pulls BA in this cycle (R730). -/
  baBadLine : Bool
  /-- The 8 pixels of this cycle are produced (R706). -/
  draw : Bool
  /-- X coordinate of pixel 0 (R705). -/
  x0 : BitVec 16
  /-- R740. -/
  vcLoad : Bool
  /-- R821, first MCBASE step. -/
  mcbase1 : Bool
  /-- R822, second MCBASE step. -/
  mcbase2 : Bool
  /-- R811. -/
  expToggle : Bool
  /-- R810. -/
  dmaStart : Bool
  /-- R741 and R812. -/
  rowEnd : Bool
  deriving DecidableEq, Repr

/-- R702: the parameter `NtscCycleTable`: its 65 rows, and (R704) the lines it calls vertical blanking. -/
structure NtscTable where
  rows : List CycleRow
  vblankLines : List Nat
  deriving DecidableEq, Repr

/-- R10: the configuration parameters. -/
structure Config where
  vicRevision : VicRevision
  /-- false = a 65xx chip, which has the illegal-mode g-access glitch (R306, D46). -/
  vic85xx : Bool
  cpuBaPolicy : CpuBaPolicy
  driveConnected : Bool
  deviceNumber : DeviceNumber
  ntscTable : Option NtscTable
  /-- `VicDelayedFields` (D5), as the per-field delay mask of R110. -/
  delayMask : VicRegs
  /-- `TrackBits[h]` for h = 1..84, in order (R1101, R116). -/
  trackBits : List (BitVec 16)
  /-- `CharRom`, 4 KiB by address (R109). -/
  charRom : Memory
  /-- `ColorRamInit`, 1024 nibbles by address. -/
  colorRamInit : Memory
  /-- `ChangeSignalCycles` (R1140, R116). -/
  changeSignalCycles : BitVec 32
  deriving DecidableEq, Repr

/-- R1101: the track length in bits of half-track h of a D64-expanded disk, by the zone of track (h+1)/2. -/
def Config.zoneTrackBits (h : Nat) : Nat :=
  let t := (h + 1) / 2
  if t ≤ 17 then 61536 else if t ≤ 24 then 57136 else if t ≤ 30 then 53328 else 50000

/-- The configuration `State.reset` stands for: the PAL 6569 (a 65xx chip, R306) with the drive attached (R1) as
device 8, no delayed field, the zone track lengths, and external ROM and colour-RAM contents that list nothing.
DESIGN CHOICE (notes/assumptions/3.md); unsafe: only claims about `State.reset` rest on it. -/
def Config.default : Config where
  vicRevision := .pal6569
  vic85xx := false
  cpuBaPolicy := .sourceLiteral
  driveConnected := true
  deviceNumber := .eight
  ntscTable := none
  delayMask := VicRegs.zero
  trackBits := (List.range 84).map (fun i => BitVec.ofNat 16 (Config.zoneTrackBits (i + 1)))
  charRom := []
  colorRamInit := []
  changeSignalCycles := 200000

/-- FREE VALUE (R742, R208, D11, U10, U11): the k-th byte the spec calls a draw. It has no body: nothing can be proved of it. -/
opaque Config.freeByte : Nat → Byte

/-- FREE VALUE (R731, R208, U10, U11): the k-th nibble the spec calls a draw. -/
opaque Config.freeNibble : Nat → Nibble

/-- FREE VALUE (R115, R1402, U18): the k-th 16-bit value the spec calls unspecified (VIA timers after a drive reset). -/
opaque Config.freeWord : Nat → BitVec 16

end Sys2Proof
end

