-- ==== Sys2Proof/Syntax.lean ====
section
/-!
DEFINITION. The bus operations of the block (spec/00_scope.md R18, spec/30_encoding.md): one constructor per row of
spec/opcode_table.json. A write carries the data byte that accompanies its word (R301); `n` is the sprite number of the
rows with a sprite field, `c` and `v` the chip of the HC and DV rows. A VIC access carries no operand: its address and
its sprite come from VIC state (R304).
-/

namespace Sys2Proof

inductive Instr where
  -- format HV: host CPU to VIC-II register
  /-- `R VIC MnX`, word `100nnn0`, R601. -/
  | rVicMnX (n : Nat)
  /-- `R VIC MnY`, word `100nnn1`, R603. -/
  | rVicMnY (n : Nat)
  /-- `R VIC MSBX`, word `1010000`, R605. -/
  | rVicMsbx
  /-- `R VIC CR1`, word `1010001`, R607. -/
  | rVicCr1
  /-- `R VIC RASTER`, word `1010010`, R609. -/
  | rVicRaster
  /-- `R VIC LPX`, word `1010011`, R611. -/
  | rVicLpx
  /-- `R VIC LPY`, word `1010100`, R613. -/
  | rVicLpy
  /-- `R VIC MXE`, word `1010101`, R615. -/
  | rVicMxe
  /-- `R VIC CR2`, word `1010110`, R617. -/
  | rVicCr2
  /-- `R VIC MXYE`, word `1010111`, R619. -/
  | rVicMxye
  /-- `R VIC MEMPTR`, word `1011000`, R621. -/
  | rVicMemptr
  /-- `R VIC IRR`, word `1011001`, R623. -/
  | rVicIrr
  /-- `R VIC IMR`, word `1011010`, R625. -/
  | rVicImr
  /-- `R VIC MXDP`, word `1011011`, R627. -/
  | rVicMxdp
  /-- `R VIC MXMC`, word `1011100`, R629. -/
  | rVicMxmc
  /-- `R VIC MXXE`, word `1011101`, R633. -/
  | rVicMxxe
  /-- `R VIC MM`, word `1011110`, R630. -/
  | rVicMm
  /-- `R VIC MD`, word `1011111`, R631. -/
  | rVicMd
  /-- `R VIC EC`, word `1100000`, R640. -/
  | rVicEc
  /-- `R VIC B0C`, word `1100001`, R642. -/
  | rVicB0c
  /-- `R VIC B1C`, word `1100010`, R642. -/
  | rVicB1c
  /-- `R VIC B2C`, word `1100011`, R642. -/
  | rVicB2c
  /-- `R VIC B3C`, word `1100100`, R642. -/
  | rVicB3c
  /-- `R VIC MM0`, word `1100101`, R644. -/
  | rVicMm0
  /-- `R VIC MM1`, word `1100110`, R644. -/
  | rVicMm1
  /-- `R VIC M0C`, word `1100111`, R646. -/
  | rVicM0c
  /-- `R VIC M1C`, word `1101000`, R646. -/
  | rVicM1c
  /-- `R VIC M2C`, word `1101001`, R646. -/
  | rVicM2c
  /-- `R VIC M3C`, word `1101010`, R646. -/
  | rVicM3c
  /-- `R VIC M4C`, word `1101011`, R646. -/
  | rVicM4c
  /-- `R VIC M5C`, word `1101100`, R646. -/
  | rVicM5c
  /-- `R VIC M6C`, word `1101101`, R646. -/
  | rVicM6c
  /-- `R VIC M7C`, word `1101110`, R646. -/
  | rVicM7c
  /-- `R VIC UNUSED2F`, word `1101111`, R650. -/
  | rVicUnused2F
  /-- `R VIC UNUSED30`, word `1110000`, R650. -/
  | rVicUnused30
  /-- `R VIC UNUSED31`, word `1110001`, R650. -/
  | rVicUnused31
  /-- `R VIC UNUSED32`, word `1110010`, R650. -/
  | rVicUnused32
  /-- `R VIC UNUSED33`, word `1110011`, R650. -/
  | rVicUnused33
  /-- `R VIC UNUSED34`, word `1110100`, R650. -/
  | rVicUnused34
  /-- `R VIC UNUSED35`, word `1110101`, R650. -/
  | rVicUnused35
  /-- `R VIC UNUSED36`, word `1110110`, R650. -/
  | rVicUnused36
  /-- `R VIC UNUSED37`, word `1110111`, R650. -/
  | rVicUnused37
  /-- `R VIC UNUSED38`, word `1111000`, R650. -/
  | rVicUnused38
  /-- `R VIC UNUSED39`, word `1111001`, R650. -/
  | rVicUnused39
  /-- `R VIC UNUSED3A`, word `1111010`, R650. -/
  | rVicUnused3A
  /-- `R VIC UNUSED3B`, word `1111011`, R650. -/
  | rVicUnused3B
  /-- `R VIC UNUSED3C`, word `1111100`, R650. -/
  | rVicUnused3C
  /-- `R VIC UNUSED3D`, word `1111101`, R650. -/
  | rVicUnused3D
  /-- `R VIC UNUSED3E`, word `1111110`, R650. -/
  | rVicUnused3E
  /-- `R VIC UNUSED3F`, word `1111111`, R650. -/
  | rVicUnused3F
  /-- `W VIC MnX`, word `000nnn0`, R602. -/
  | wVicMnX (n : Nat) (d : Byte)
  /-- `W VIC MnY`, word `000nnn1`, R604. -/
  | wVicMnY (n : Nat) (d : Byte)
  /-- `W VIC MSBX`, word `0010000`, R606. -/
  | wVicMsbx (d : Byte)
  /-- `W VIC CR1`, word `0010001`, R608. -/
  | wVicCr1 (d : Byte)
  /-- `W VIC RASTER`, word `0010010`, R610. -/
  | wVicRaster (d : Byte)
  /-- `W VIC LPX`, word `0010011`, R612. -/
  | wVicLpx (d : Byte)
  /-- `W VIC LPY`, word `0010100`, R614. -/
  | wVicLpy (d : Byte)
  /-- `W VIC MXE`, word `0010101`, R616. -/
  | wVicMxe (d : Byte)
  /-- `W VIC CR2`, word `0010110`, R618. -/
  | wVicCr2 (d : Byte)
  /-- `W VIC MXYE`, word `0010111`, R620. -/
  | wVicMxye (d : Byte)
  /-- `W VIC MEMPTR`, word `0011000`, R622. -/
  | wVicMemptr (d : Byte)
  /-- `W VIC IRR`, word `0011001`, R624. -/
  | wVicIrr (d : Byte)
  /-- `W VIC IMR`, word `0011010`, R626. -/
  | wVicImr (d : Byte)
  /-- `W VIC MXDP`, word `0011011`, R628. -/
  | wVicMxdp (d : Byte)
  /-- `W VIC MXMC`, word `0011100`, R632. -/
  | wVicMxmc (d : Byte)
  /-- `W VIC MXXE`, word `0011101`, R634. -/
  | wVicMxxe (d : Byte)
  /-- `W VIC MM`, word `0011110`, R635. -/
  | wVicMm (d : Byte)
  /-- `W VIC MD`, word `0011111`, R636. -/
  | wVicMd (d : Byte)
  /-- `W VIC EC`, word `0100000`, R641. -/
  | wVicEc (d : Byte)
  /-- `W VIC B0C`, word `0100001`, R643. -/
  | wVicB0c (d : Byte)
  /-- `W VIC B1C`, word `0100010`, R643. -/
  | wVicB1c (d : Byte)
  /-- `W VIC B2C`, word `0100011`, R643. -/
  | wVicB2c (d : Byte)
  /-- `W VIC B3C`, word `0100100`, R643. -/
  | wVicB3c (d : Byte)
  /-- `W VIC MM0`, word `0100101`, R645. -/
  | wVicMm0 (d : Byte)
  /-- `W VIC MM1`, word `0100110`, R645. -/
  | wVicMm1 (d : Byte)
  /-- `W VIC M0C`, word `0100111`, R647. -/
  | wVicM0c (d : Byte)
  /-- `W VIC M1C`, word `0101000`, R647. -/
  | wVicM1c (d : Byte)
  /-- `W VIC M2C`, word `0101001`, R647. -/
  | wVicM2c (d : Byte)
  /-- `W VIC M3C`, word `0101010`, R647. -/
  | wVicM3c (d : Byte)
  /-- `W VIC M4C`, word `0101011`, R647. -/
  | wVicM4c (d : Byte)
  /-- `W VIC M5C`, word `0101100`, R647. -/
  | wVicM5c (d : Byte)
  /-- `W VIC M6C`, word `0101101`, R647. -/
  | wVicM6c (d : Byte)
  /-- `W VIC M7C`, word `0101110`, R647. -/
  | wVicM7c (d : Byte)
  /-- `W VIC UNUSED2F`, word `0101111`, R651. -/
  | wVicUnused2F (d : Byte)
  /-- `W VIC UNUSED30`, word `0110000`, R651. -/
  | wVicUnused30 (d : Byte)
  /-- `W VIC UNUSED31`, word `0110001`, R651. -/
  | wVicUnused31 (d : Byte)
  /-- `W VIC UNUSED32`, word `0110010`, R651. -/
  | wVicUnused32 (d : Byte)
  /-- `W VIC UNUSED33`, word `0110011`, R651. -/
  | wVicUnused33 (d : Byte)
  /-- `W VIC UNUSED34`, word `0110100`, R651. -/
  | wVicUnused34 (d : Byte)
  /-- `W VIC UNUSED35`, word `0110101`, R651. -/
  | wVicUnused35 (d : Byte)
  /-- `W VIC UNUSED36`, word `0110110`, R651. -/
  | wVicUnused36 (d : Byte)
  /-- `W VIC UNUSED37`, word `0110111`, R651. -/
  | wVicUnused37 (d : Byte)
  /-- `W VIC UNUSED38`, word `0111000`, R651. -/
  | wVicUnused38 (d : Byte)
  /-- `W VIC UNUSED39`, word `0111001`, R651. -/
  | wVicUnused39 (d : Byte)
  /-- `W VIC UNUSED3A`, word `0111010`, R651. -/
  | wVicUnused3A (d : Byte)
  /-- `W VIC UNUSED3B`, word `0111011`, R651. -/
  | wVicUnused3B (d : Byte)
  /-- `W VIC UNUSED3C`, word `0111100`, R651. -/
  | wVicUnused3C (d : Byte)
  /-- `W VIC UNUSED3D`, word `0111101`, R651. -/
  | wVicUnused3D (d : Byte)
  /-- `W VIC UNUSED3E`, word `0111110`, R651. -/
  | wVicUnused3E (d : Byte)
  /-- `W VIC UNUSED3F`, word `0111111`, R651. -/
  | wVicUnused3F (d : Byte)
  -- format HC: host CPU to CIA register
  /-- `R CIAc PRA`, word `1c0000`, R510. -/
  | rCiaPra (c : CiaId)
  /-- `R CIAc PRB`, word `1c0001`, R512. -/
  | rCiaPrb (c : CiaId)
  /-- `R CIAc DDRA`, word `1c0010`, R514. -/
  | rCiaDdra (c : CiaId)
  /-- `R CIAc DDRB`, word `1c0011`, R514. -/
  | rCiaDdrb (c : CiaId)
  /-- `R CIAc TALO`, word `1c0100`, R516. -/
  | rCiaTaLo (c : CiaId)
  /-- `R CIAc TAHI`, word `1c0101`, R516. -/
  | rCiaTaHi (c : CiaId)
  /-- `R CIAc TBLO`, word `1c0110`, R516. -/
  | rCiaTbLo (c : CiaId)
  /-- `R CIAc TBHI`, word `1c0111`, R516. -/
  | rCiaTbHi (c : CiaId)
  /-- `R CIAc TOD10THS`, word `1c1000`, R570. -/
  | rCiaTod10ths (c : CiaId)
  /-- `R CIAc TODSEC`, word `1c1001`, R571. -/
  | rCiaTodSec (c : CiaId)
  /-- `R CIAc TODMIN`, word `1c1010`, R572. -/
  | rCiaTodMin (c : CiaId)
  /-- `R CIAc TODHRS`, word `1c1011`, R573. -/
  | rCiaTodHrs (c : CiaId)
  /-- `R CIAc SDR`, word `1c1100`, R533. -/
  | rCiaSdr (c : CiaId)
  /-- `R CIAc ICR`, word `1c1101`, R530. -/
  | rCiaIcr (c : CiaId)
  /-- `R CIAc CRA`, word `1c1110`, R519. -/
  | rCiaCra (c : CiaId)
  /-- `R CIAc CRB`, word `1c1111`, R519. -/
  | rCiaCrb (c : CiaId)
  /-- `W CIAc PRA`, word `0c0000`, R511. -/
  | wCiaPra (c : CiaId) (d : Byte)
  /-- `W CIAc PRB`, word `0c0001`, R513. -/
  | wCiaPrb (c : CiaId) (d : Byte)
  /-- `W CIAc DDRA`, word `0c0010`, R515. -/
  | wCiaDdra (c : CiaId) (d : Byte)
  /-- `W CIAc DDRB`, word `0c0011`, R515. -/
  | wCiaDdrb (c : CiaId) (d : Byte)
  /-- `W CIAc TALO`, word `0c0100`, R517. -/
  | wCiaTaLo (c : CiaId) (d : Byte)
  /-- `W CIAc TAHI`, word `0c0101`, R518. -/
  | wCiaTaHi (c : CiaId) (d : Byte)
  /-- `W CIAc TBLO`, word `0c0110`, R517. -/
  | wCiaTbLo (c : CiaId) (d : Byte)
  /-- `W CIAc TBHI`, word `0c0111`, R518. -/
  | wCiaTbHi (c : CiaId) (d : Byte)
  /-- `W CIAc TOD10THS`, word `0c1000`, R574. -/
  | wCiaTod10ths (c : CiaId) (d : Byte)
  /-- `W CIAc TODSEC`, word `0c1001`, R575. -/
  | wCiaTodSec (c : CiaId) (d : Byte)
  /-- `W CIAc TODMIN`, word `0c1010`, R576. -/
  | wCiaTodMin (c : CiaId) (d : Byte)
  /-- `W CIAc TODHRS`, word `0c1011`, R577. -/
  | wCiaTodHrs (c : CiaId) (d : Byte)
  /-- `W CIAc SDR`, word `0c1100`, R534. -/
  | wCiaSdr (c : CiaId) (d : Byte)
  /-- `W CIAc ICR`, word `0c1101`, R532. -/
  | wCiaIcr (c : CiaId) (d : Byte)
  /-- `W CIAc CRA`, word `0c1110`, R544. -/
  | wCiaCra (c : CiaId) (d : Byte)
  /-- `W CIAc CRB`, word `0c1111`, R546. -/
  | wCiaCrb (c : CiaId) (d : Byte)
  -- format DV: drive CPU to VIA register
  /-- `R VIAv ORB`, word `1v0000`, R1004. -/
  | rViaOrb (v : ViaId)
  /-- `R VIAv ORA`, word `1v0001`, R1006. -/
  | rViaOra (v : ViaId)
  /-- `R VIAv DDRB`, word `1v0010`, R1008. -/
  | rViaDdrb (v : ViaId)
  /-- `R VIAv DDRA`, word `1v0011`, R1010. -/
  | rViaDdra (v : ViaId)
  /-- `R VIAv T1CL`, word `1v0100`, R1012. -/
  | rViaT1cl (v : ViaId)
  /-- `R VIAv T1CH`, word `1v0101`, R1014. -/
  | rViaT1ch (v : ViaId)
  /-- `R VIAv T1LL`, word `1v0110`, R1016. -/
  | rViaT1ll (v : ViaId)
  /-- `R VIAv T1LH`, word `1v0111`, R1018. -/
  | rViaT1lh (v : ViaId)
  /-- `R VIAv T2CL`, word `1v1000`, R1024. -/
  | rViaT2cl (v : ViaId)
  /-- `R VIAv T2CH`, word `1v1001`, R1026. -/
  | rViaT2ch (v : ViaId)
  /-- `R VIAv SR`, word `1v1010`, R1030. -/
  | rViaSr (v : ViaId)
  /-- `R VIAv ACR`, word `1v1011`, R1032. -/
  | rViaAcr (v : ViaId)
  /-- `R VIAv PCR`, word `1v1100`, R1034. -/
  | rViaPcr (v : ViaId)
  /-- `R VIAv IFR`, word `1v1101`, R1036. -/
  | rViaIfr (v : ViaId)
  /-- `R VIAv IER`, word `1v1110`, R1038. -/
  | rViaIer (v : ViaId)
  /-- `R VIAv ORANH`, word `1v1111`, R1042. -/
  | rViaOraNh (v : ViaId)
  /-- `W VIAv ORB`, word `0v0000`, R1005. -/
  | wViaOrb (v : ViaId) (d : Byte)
  /-- `W VIAv ORA`, word `0v0001`, R1007. -/
  | wViaOra (v : ViaId) (d : Byte)
  /-- `W VIAv DDRB`, word `0v0010`, R1009. -/
  | wViaDdrb (v : ViaId) (d : Byte)
  /-- `W VIAv DDRA`, word `0v0011`, R1011. -/
  | wViaDdra (v : ViaId) (d : Byte)
  /-- `W VIAv T1CL`, word `0v0100`, R1013. -/
  | wViaT1cl (v : ViaId) (d : Byte)
  /-- `W VIAv T1CH`, word `0v0101`, R1015. -/
  | wViaT1ch (v : ViaId) (d : Byte)
  /-- `W VIAv T1LL`, word `0v0110`, R1017. -/
  | wViaT1ll (v : ViaId) (d : Byte)
  /-- `W VIAv T1LH`, word `0v0111`, R1019. -/
  | wViaT1lh (v : ViaId) (d : Byte)
  /-- `W VIAv T2CL`, word `0v1000`, R1025. -/
  | wViaT2cl (v : ViaId) (d : Byte)
  /-- `W VIAv T2CH`, word `0v1001`, R1027. -/
  | wViaT2ch (v : ViaId) (d : Byte)
  /-- `W VIAv SR`, word `0v1010`, R1031. -/
  | wViaSr (v : ViaId) (d : Byte)
  /-- `W VIAv ACR`, word `0v1011`, R1033. -/
  | wViaAcr (v : ViaId) (d : Byte)
  /-- `W VIAv PCR`, word `0v1100`, R1035. -/
  | wViaPcr (v : ViaId) (d : Byte)
  /-- `W VIAv IFR`, word `0v1101`, R1037. -/
  | wViaIfr (v : ViaId) (d : Byte)
  /-- `W VIAv IER`, word `0v1110`, R1039. -/
  | wViaIer (v : ViaId) (d : Byte)
  /-- `W VIAv ORANH`, word `0v1111`, R1043. -/
  | wViaOraNh (v : ViaId) (d : Byte)
  -- format VA: the VIC-II's own memory access
  /-- `VA r`, word `0000`, R733. -/
  | vaR
  /-- `VA i`, word `0001`, R734. -/
  | vaI
  /-- `VA g`, word `0011`, R732. -/
  | vaG
  /-- `VA p`, word `0100`, R840. -/
  | vaP
  /-- `VA s2`, word `0110`, R842. -/
  | vaS2
  /-- `VA c`, word `1010`, R731. -/
  | vaC
  /-- `VA s1`, word `1101`, R841. -/
  | vaS1
  /-- `VA s3`, word `1111`, R843. -/
  | vaS3
  deriving DecidableEq, Repr

end Sys2Proof
end

