-- ==== Sys2Proof/WellFormed.lean ====
section
/-!
DEFINITION. What makes a bus operation well formed: its operands fit the fields of its word (spec/30_encoding.md
R301-R304). The chip fields and the data byte fit by their types; the sprite number is a 3-bit field (R307).
-/

namespace Sys2Proof

/-- R307: `a[3:1]` is the sprite number, so it is one of 0..7. -/
def Instr.wellFormed : Instr → Bool
  | .rVicMnX n => decide (n < 8)
  | .rVicMnY n => decide (n < 8)
  | .rVicMsbx => true
  | .rVicCr1 => true
  | .rVicRaster => true
  | .rVicLpx => true
  | .rVicLpy => true
  | .rVicMxe => true
  | .rVicCr2 => true
  | .rVicMxye => true
  | .rVicMemptr => true
  | .rVicIrr => true
  | .rVicImr => true
  | .rVicMxdp => true
  | .rVicMxmc => true
  | .rVicMxxe => true
  | .rVicMm => true
  | .rVicMd => true
  | .rVicEc => true
  | .rVicB0c => true
  | .rVicB1c => true
  | .rVicB2c => true
  | .rVicB3c => true
  | .rVicMm0 => true
  | .rVicMm1 => true
  | .rVicM0c => true
  | .rVicM1c => true
  | .rVicM2c => true
  | .rVicM3c => true
  | .rVicM4c => true
  | .rVicM5c => true
  | .rVicM6c => true
  | .rVicM7c => true
  | .rVicUnused2F => true
  | .rVicUnused30 => true
  | .rVicUnused31 => true
  | .rVicUnused32 => true
  | .rVicUnused33 => true
  | .rVicUnused34 => true
  | .rVicUnused35 => true
  | .rVicUnused36 => true
  | .rVicUnused37 => true
  | .rVicUnused38 => true
  | .rVicUnused39 => true
  | .rVicUnused3A => true
  | .rVicUnused3B => true
  | .rVicUnused3C => true
  | .rVicUnused3D => true
  | .rVicUnused3E => true
  | .rVicUnused3F => true
  | .wVicMnX n _ => decide (n < 8)
  | .wVicMnY n _ => decide (n < 8)
  | .wVicMsbx _ => true
  | .wVicCr1 _ => true
  | .wVicRaster _ => true
  | .wVicLpx _ => true
  | .wVicLpy _ => true
  | .wVicMxe _ => true
  | .wVicCr2 _ => true
  | .wVicMxye _ => true
  | .wVicMemptr _ => true
  | .wVicIrr _ => true
  | .wVicImr _ => true
  | .wVicMxdp _ => true
  | .wVicMxmc _ => true
  | .wVicMxxe _ => true
  | .wVicMm _ => true
  | .wVicMd _ => true
  | .wVicEc _ => true
  | .wVicB0c _ => true
  | .wVicB1c _ => true
  | .wVicB2c _ => true
  | .wVicB3c _ => true
  | .wVicMm0 _ => true
  | .wVicMm1 _ => true
  | .wVicM0c _ => true
  | .wVicM1c _ => true
  | .wVicM2c _ => true
  | .wVicM3c _ => true
  | .wVicM4c _ => true
  | .wVicM5c _ => true
  | .wVicM6c _ => true
  | .wVicM7c _ => true
  | .wVicUnused2F _ => true
  | .wVicUnused30 _ => true
  | .wVicUnused31 _ => true
  | .wVicUnused32 _ => true
  | .wVicUnused33 _ => true
  | .wVicUnused34 _ => true
  | .wVicUnused35 _ => true
  | .wVicUnused36 _ => true
  | .wVicUnused37 _ => true
  | .wVicUnused38 _ => true
  | .wVicUnused39 _ => true
  | .wVicUnused3A _ => true
  | .wVicUnused3B _ => true
  | .wVicUnused3C _ => true
  | .wVicUnused3D _ => true
  | .wVicUnused3E _ => true
  | .wVicUnused3F _ => true
  | .rCiaPra _ => true
  | .rCiaPrb _ => true
  | .rCiaDdra _ => true
  | .rCiaDdrb _ => true
  | .rCiaTaLo _ => true
  | .rCiaTaHi _ => true
  | .rCiaTbLo _ => true
  | .rCiaTbHi _ => true
  | .rCiaTod10ths _ => true
  | .rCiaTodSec _ => true
  | .rCiaTodMin _ => true
  | .rCiaTodHrs _ => true
  | .rCiaSdr _ => true
  | .rCiaIcr _ => true
  | .rCiaCra _ => true
  | .rCiaCrb _ => true
  | .wCiaPra _ _ => true
  | .wCiaPrb _ _ => true
  | .wCiaDdra _ _ => true
  | .wCiaDdrb _ _ => true
  | .wCiaTaLo _ _ => true
  | .wCiaTaHi _ _ => true
  | .wCiaTbLo _ _ => true
  | .wCiaTbHi _ _ => true
  | .wCiaTod10ths _ _ => true
  | .wCiaTodSec _ _ => true
  | .wCiaTodMin _ _ => true
  | .wCiaTodHrs _ _ => true
  | .wCiaSdr _ _ => true
  | .wCiaIcr _ _ => true
  | .wCiaCra _ _ => true
  | .wCiaCrb _ _ => true
  | .rViaOrb _ => true
  | .rViaOra _ => true
  | .rViaDdrb _ => true
  | .rViaDdra _ => true
  | .rViaT1cl _ => true
  | .rViaT1ch _ => true
  | .rViaT1ll _ => true
  | .rViaT1lh _ => true
  | .rViaT2cl _ => true
  | .rViaT2ch _ => true
  | .rViaSr _ => true
  | .rViaAcr _ => true
  | .rViaPcr _ => true
  | .rViaIfr _ => true
  | .rViaIer _ => true
  | .rViaOraNh _ => true
  | .wViaOrb _ _ => true
  | .wViaOra _ _ => true
  | .wViaDdrb _ _ => true
  | .wViaDdra _ _ => true
  | .wViaT1cl _ _ => true
  | .wViaT1ch _ _ => true
  | .wViaT1ll _ _ => true
  | .wViaT1lh _ _ => true
  | .wViaT2cl _ _ => true
  | .wViaT2ch _ _ => true
  | .wViaSr _ _ => true
  | .wViaAcr _ _ => true
  | .wViaPcr _ _ => true
  | .wViaIfr _ _ => true
  | .wViaIer _ _ => true
  | .wViaOraNh _ _ => true
  | .vaR => true
  | .vaI => true
  | .vaG => true
  | .vaP => true
  | .vaS2 => true
  | .vaC => true
  | .vaS1 => true
  | .vaS3 => true

end Sys2Proof
end

