-- ==== Sys2Proof/Decode.lean ====
section
/-!
DEFINITION. Decoding and encoding of bus operations (spec/30_encoding.md R300-R304). A bus word is read by the port it is
presented on: the four formats have words of 7, 6, 6 and 4 bits that overlap as numbers, and the spec gives no bit that
tells the formats apart (notes/assumptions/2.md). The rows are those of spec/opcode_table.json, mask and pattern as there.
-/

namespace Sys2Proof

/-- The port a bus word is presented on, which fixes its format (R301-R304). -/
inductive Port where
  /-- HV: host CPU to VIC-II. -/
  | hv
  /-- HC: host CPU to a CIA. -/
  | hc
  /-- DV: drive CPU to a VIA. -/
  | dv
  /-- VA: the VIC-II's own memory access. -/
  | va
  deriving DecidableEq, Repr

/-- The bus word, its port and the data byte on the bus (R301: the byte accompanies a write; for a read it is not looked at). -/
structure BusWord where
  port : Port
  word : Byte
  data : Byte
  deriving DecidableEq, Repr

/-- Why a word is no bus operation. -/
inductive DecodeError where
  /-- The word has a bit above its format's width. -/
  | wordTooWide (port : Port)
  /-- R304, R310: a half/kind combination the cycle table never produces. -/
  | reservedVicAccess (word : Byte)
  deriving DecidableEq, Repr

/-- R300: the width of each format in bits. -/
def Port.width : Port → Nat
  | .hv => 7
  | .hc => 6
  | .dv => 6
  | .va => 4

/-- One row of the opcode table: the word, masked, equals the pattern; `make` builds the operation from word and data. -/
structure OpRow where
  mask : Byte
  pat : Byte
  make : Byte → Byte → Instr

/-- R307: the sprite number `a[3:1]`. -/
def spriteField (w : Byte) : Nat := (w >>> 1 &&& 7).toNat

/-- R302: bit 4 selects the CIA. -/
def ciaField (w : Byte) : CiaId := if w.getLsbD 4 then .cia2 else .cia1

/-- R303: bit 4 selects the VIA. -/
def viaField (w : Byte) : ViaId := if w.getLsbD 4 then .via2 else .via1

/-- HV reads (bit 6 = 1), R301. -/
def hvReadRows : List OpRow :=
  [⟨0x71, 0x40, fun w _ => .rVicMnX (spriteField w)⟩,
   ⟨0x71, 0x41, fun w _ => .rVicMnY (spriteField w)⟩,
   ⟨0x7f, 0x50, fun _ _ => .rVicMsbx⟩,
   ⟨0x7f, 0x51, fun _ _ => .rVicCr1⟩,
   ⟨0x7f, 0x52, fun _ _ => .rVicRaster⟩,
   ⟨0x7f, 0x53, fun _ _ => .rVicLpx⟩,
   ⟨0x7f, 0x54, fun _ _ => .rVicLpy⟩,
   ⟨0x7f, 0x55, fun _ _ => .rVicMxe⟩,
   ⟨0x7f, 0x56, fun _ _ => .rVicCr2⟩,
   ⟨0x7f, 0x57, fun _ _ => .rVicMxye⟩,
   ⟨0x7f, 0x58, fun _ _ => .rVicMemptr⟩,
   ⟨0x7f, 0x59, fun _ _ => .rVicIrr⟩,
   ⟨0x7f, 0x5a, fun _ _ => .rVicImr⟩,
   ⟨0x7f, 0x5b, fun _ _ => .rVicMxdp⟩,
   ⟨0x7f, 0x5c, fun _ _ => .rVicMxmc⟩,
   ⟨0x7f, 0x5d, fun _ _ => .rVicMxxe⟩] ++
  [⟨0x7f, 0x5e, fun _ _ => .rVicMm⟩,
   ⟨0x7f, 0x5f, fun _ _ => .rVicMd⟩,
   ⟨0x7f, 0x60, fun _ _ => .rVicEc⟩,
   ⟨0x7f, 0x61, fun _ _ => .rVicB0c⟩,
   ⟨0x7f, 0x62, fun _ _ => .rVicB1c⟩,
   ⟨0x7f, 0x63, fun _ _ => .rVicB2c⟩,
   ⟨0x7f, 0x64, fun _ _ => .rVicB3c⟩,
   ⟨0x7f, 0x65, fun _ _ => .rVicMm0⟩,
   ⟨0x7f, 0x66, fun _ _ => .rVicMm1⟩,
   ⟨0x7f, 0x67, fun _ _ => .rVicM0c⟩,
   ⟨0x7f, 0x68, fun _ _ => .rVicM1c⟩,
   ⟨0x7f, 0x69, fun _ _ => .rVicM2c⟩,
   ⟨0x7f, 0x6a, fun _ _ => .rVicM3c⟩,
   ⟨0x7f, 0x6b, fun _ _ => .rVicM4c⟩,
   ⟨0x7f, 0x6c, fun _ _ => .rVicM5c⟩,
   ⟨0x7f, 0x6d, fun _ _ => .rVicM6c⟩] ++
  [⟨0x7f, 0x6e, fun _ _ => .rVicM7c⟩,
   ⟨0x7f, 0x6f, fun _ _ => .rVicUnused2F⟩,
   ⟨0x7f, 0x70, fun _ _ => .rVicUnused30⟩,
   ⟨0x7f, 0x71, fun _ _ => .rVicUnused31⟩,
   ⟨0x7f, 0x72, fun _ _ => .rVicUnused32⟩,
   ⟨0x7f, 0x73, fun _ _ => .rVicUnused33⟩,
   ⟨0x7f, 0x74, fun _ _ => .rVicUnused34⟩,
   ⟨0x7f, 0x75, fun _ _ => .rVicUnused35⟩,
   ⟨0x7f, 0x76, fun _ _ => .rVicUnused36⟩,
   ⟨0x7f, 0x77, fun _ _ => .rVicUnused37⟩,
   ⟨0x7f, 0x78, fun _ _ => .rVicUnused38⟩,
   ⟨0x7f, 0x79, fun _ _ => .rVicUnused39⟩,
   ⟨0x7f, 0x7a, fun _ _ => .rVicUnused3A⟩,
   ⟨0x7f, 0x7b, fun _ _ => .rVicUnused3B⟩,
   ⟨0x7f, 0x7c, fun _ _ => .rVicUnused3C⟩,
   ⟨0x7f, 0x7d, fun _ _ => .rVicUnused3D⟩] ++
  [⟨0x7f, 0x7e, fun _ _ => .rVicUnused3E⟩,
   ⟨0x7f, 0x7f, fun _ _ => .rVicUnused3F⟩]

/-- HV writes (bit 6 = 0), R301. -/
def hvWriteRows : List OpRow :=
  [⟨0x71, 0x00, fun w d => .wVicMnX (spriteField w) d⟩,
   ⟨0x71, 0x01, fun w d => .wVicMnY (spriteField w) d⟩,
   ⟨0x7f, 0x10, fun _ d => .wVicMsbx d⟩,
   ⟨0x7f, 0x11, fun _ d => .wVicCr1 d⟩,
   ⟨0x7f, 0x12, fun _ d => .wVicRaster d⟩,
   ⟨0x7f, 0x13, fun _ d => .wVicLpx d⟩,
   ⟨0x7f, 0x14, fun _ d => .wVicLpy d⟩,
   ⟨0x7f, 0x15, fun _ d => .wVicMxe d⟩,
   ⟨0x7f, 0x16, fun _ d => .wVicCr2 d⟩,
   ⟨0x7f, 0x17, fun _ d => .wVicMxye d⟩,
   ⟨0x7f, 0x18, fun _ d => .wVicMemptr d⟩,
   ⟨0x7f, 0x19, fun _ d => .wVicIrr d⟩,
   ⟨0x7f, 0x1a, fun _ d => .wVicImr d⟩,
   ⟨0x7f, 0x1b, fun _ d => .wVicMxdp d⟩,
   ⟨0x7f, 0x1c, fun _ d => .wVicMxmc d⟩,
   ⟨0x7f, 0x1d, fun _ d => .wVicMxxe d⟩] ++
  [⟨0x7f, 0x1e, fun _ d => .wVicMm d⟩,
   ⟨0x7f, 0x1f, fun _ d => .wVicMd d⟩,
   ⟨0x7f, 0x20, fun _ d => .wVicEc d⟩,
   ⟨0x7f, 0x21, fun _ d => .wVicB0c d⟩,
   ⟨0x7f, 0x22, fun _ d => .wVicB1c d⟩,
   ⟨0x7f, 0x23, fun _ d => .wVicB2c d⟩,
   ⟨0x7f, 0x24, fun _ d => .wVicB3c d⟩,
   ⟨0x7f, 0x25, fun _ d => .wVicMm0 d⟩,
   ⟨0x7f, 0x26, fun _ d => .wVicMm1 d⟩,
   ⟨0x7f, 0x27, fun _ d => .wVicM0c d⟩,
   ⟨0x7f, 0x28, fun _ d => .wVicM1c d⟩,
   ⟨0x7f, 0x29, fun _ d => .wVicM2c d⟩,
   ⟨0x7f, 0x2a, fun _ d => .wVicM3c d⟩,
   ⟨0x7f, 0x2b, fun _ d => .wVicM4c d⟩,
   ⟨0x7f, 0x2c, fun _ d => .wVicM5c d⟩,
   ⟨0x7f, 0x2d, fun _ d => .wVicM6c d⟩] ++
  [⟨0x7f, 0x2e, fun _ d => .wVicM7c d⟩,
   ⟨0x7f, 0x2f, fun _ d => .wVicUnused2F d⟩,
   ⟨0x7f, 0x30, fun _ d => .wVicUnused30 d⟩,
   ⟨0x7f, 0x31, fun _ d => .wVicUnused31 d⟩,
   ⟨0x7f, 0x32, fun _ d => .wVicUnused32 d⟩,
   ⟨0x7f, 0x33, fun _ d => .wVicUnused33 d⟩,
   ⟨0x7f, 0x34, fun _ d => .wVicUnused34 d⟩,
   ⟨0x7f, 0x35, fun _ d => .wVicUnused35 d⟩,
   ⟨0x7f, 0x36, fun _ d => .wVicUnused36 d⟩,
   ⟨0x7f, 0x37, fun _ d => .wVicUnused37 d⟩,
   ⟨0x7f, 0x38, fun _ d => .wVicUnused38 d⟩,
   ⟨0x7f, 0x39, fun _ d => .wVicUnused39 d⟩,
   ⟨0x7f, 0x3a, fun _ d => .wVicUnused3A d⟩,
   ⟨0x7f, 0x3b, fun _ d => .wVicUnused3B d⟩,
   ⟨0x7f, 0x3c, fun _ d => .wVicUnused3C d⟩,
   ⟨0x7f, 0x3d, fun _ d => .wVicUnused3D d⟩] ++
  [⟨0x7f, 0x3e, fun _ d => .wVicUnused3E d⟩,
   ⟨0x7f, 0x3f, fun _ d => .wVicUnused3F d⟩]

/-- HC, R302. -/
def hcRows : List OpRow :=
  [⟨0x2f, 0x20, fun w _ => .rCiaPra (ciaField w)⟩,
   ⟨0x2f, 0x21, fun w _ => .rCiaPrb (ciaField w)⟩,
   ⟨0x2f, 0x22, fun w _ => .rCiaDdra (ciaField w)⟩,
   ⟨0x2f, 0x23, fun w _ => .rCiaDdrb (ciaField w)⟩,
   ⟨0x2f, 0x24, fun w _ => .rCiaTaLo (ciaField w)⟩,
   ⟨0x2f, 0x25, fun w _ => .rCiaTaHi (ciaField w)⟩,
   ⟨0x2f, 0x26, fun w _ => .rCiaTbLo (ciaField w)⟩,
   ⟨0x2f, 0x27, fun w _ => .rCiaTbHi (ciaField w)⟩,
   ⟨0x2f, 0x28, fun w _ => .rCiaTod10ths (ciaField w)⟩,
   ⟨0x2f, 0x29, fun w _ => .rCiaTodSec (ciaField w)⟩,
   ⟨0x2f, 0x2a, fun w _ => .rCiaTodMin (ciaField w)⟩,
   ⟨0x2f, 0x2b, fun w _ => .rCiaTodHrs (ciaField w)⟩,
   ⟨0x2f, 0x2c, fun w _ => .rCiaSdr (ciaField w)⟩,
   ⟨0x2f, 0x2d, fun w _ => .rCiaIcr (ciaField w)⟩,
   ⟨0x2f, 0x2e, fun w _ => .rCiaCra (ciaField w)⟩,
   ⟨0x2f, 0x2f, fun w _ => .rCiaCrb (ciaField w)⟩] ++
  [⟨0x2f, 0x00, fun w d => .wCiaPra (ciaField w) d⟩,
   ⟨0x2f, 0x01, fun w d => .wCiaPrb (ciaField w) d⟩,
   ⟨0x2f, 0x02, fun w d => .wCiaDdra (ciaField w) d⟩,
   ⟨0x2f, 0x03, fun w d => .wCiaDdrb (ciaField w) d⟩,
   ⟨0x2f, 0x04, fun w d => .wCiaTaLo (ciaField w) d⟩,
   ⟨0x2f, 0x05, fun w d => .wCiaTaHi (ciaField w) d⟩,
   ⟨0x2f, 0x06, fun w d => .wCiaTbLo (ciaField w) d⟩,
   ⟨0x2f, 0x07, fun w d => .wCiaTbHi (ciaField w) d⟩,
   ⟨0x2f, 0x08, fun w d => .wCiaTod10ths (ciaField w) d⟩,
   ⟨0x2f, 0x09, fun w d => .wCiaTodSec (ciaField w) d⟩,
   ⟨0x2f, 0x0a, fun w d => .wCiaTodMin (ciaField w) d⟩,
   ⟨0x2f, 0x0b, fun w d => .wCiaTodHrs (ciaField w) d⟩,
   ⟨0x2f, 0x0c, fun w d => .wCiaSdr (ciaField w) d⟩,
   ⟨0x2f, 0x0d, fun w d => .wCiaIcr (ciaField w) d⟩,
   ⟨0x2f, 0x0e, fun w d => .wCiaCra (ciaField w) d⟩,
   ⟨0x2f, 0x0f, fun w d => .wCiaCrb (ciaField w) d⟩]

/-- DV, R303. -/
def dvRows : List OpRow :=
  [⟨0x2f, 0x20, fun w _ => .rViaOrb (viaField w)⟩,
   ⟨0x2f, 0x21, fun w _ => .rViaOra (viaField w)⟩,
   ⟨0x2f, 0x22, fun w _ => .rViaDdrb (viaField w)⟩,
   ⟨0x2f, 0x23, fun w _ => .rViaDdra (viaField w)⟩,
   ⟨0x2f, 0x24, fun w _ => .rViaT1cl (viaField w)⟩,
   ⟨0x2f, 0x25, fun w _ => .rViaT1ch (viaField w)⟩,
   ⟨0x2f, 0x26, fun w _ => .rViaT1ll (viaField w)⟩,
   ⟨0x2f, 0x27, fun w _ => .rViaT1lh (viaField w)⟩,
   ⟨0x2f, 0x28, fun w _ => .rViaT2cl (viaField w)⟩,
   ⟨0x2f, 0x29, fun w _ => .rViaT2ch (viaField w)⟩,
   ⟨0x2f, 0x2a, fun w _ => .rViaSr (viaField w)⟩,
   ⟨0x2f, 0x2b, fun w _ => .rViaAcr (viaField w)⟩,
   ⟨0x2f, 0x2c, fun w _ => .rViaPcr (viaField w)⟩,
   ⟨0x2f, 0x2d, fun w _ => .rViaIfr (viaField w)⟩,
   ⟨0x2f, 0x2e, fun w _ => .rViaIer (viaField w)⟩,
   ⟨0x2f, 0x2f, fun w _ => .rViaOraNh (viaField w)⟩] ++
  [⟨0x2f, 0x00, fun w d => .wViaOrb (viaField w) d⟩,
   ⟨0x2f, 0x01, fun w d => .wViaOra (viaField w) d⟩,
   ⟨0x2f, 0x02, fun w d => .wViaDdrb (viaField w) d⟩,
   ⟨0x2f, 0x03, fun w d => .wViaDdra (viaField w) d⟩,
   ⟨0x2f, 0x04, fun w d => .wViaT1cl (viaField w) d⟩,
   ⟨0x2f, 0x05, fun w d => .wViaT1ch (viaField w) d⟩,
   ⟨0x2f, 0x06, fun w d => .wViaT1ll (viaField w) d⟩,
   ⟨0x2f, 0x07, fun w d => .wViaT1lh (viaField w) d⟩,
   ⟨0x2f, 0x08, fun w d => .wViaT2cl (viaField w) d⟩,
   ⟨0x2f, 0x09, fun w d => .wViaT2ch (viaField w) d⟩,
   ⟨0x2f, 0x0a, fun w d => .wViaSr (viaField w) d⟩,
   ⟨0x2f, 0x0b, fun w d => .wViaAcr (viaField w) d⟩,
   ⟨0x2f, 0x0c, fun w d => .wViaPcr (viaField w) d⟩,
   ⟨0x2f, 0x0d, fun w d => .wViaIfr (viaField w) d⟩,
   ⟨0x2f, 0x0e, fun w d => .wViaIer (viaField w) d⟩,
   ⟨0x2f, 0x0f, fun w d => .wViaOraNh (viaField w) d⟩]

/-- VA, R304. -/
def vaRows : List OpRow :=
  [⟨0xf, 0x0, fun _ _ => .vaR⟩,
   ⟨0xf, 0x1, fun _ _ => .vaI⟩,
   ⟨0xf, 0x3, fun _ _ => .vaG⟩,
   ⟨0xf, 0x4, fun _ _ => .vaP⟩,
   ⟨0xf, 0x6, fun _ _ => .vaS2⟩,
   ⟨0xf, 0xa, fun _ _ => .vaC⟩,
   ⟨0xf, 0xd, fun _ _ => .vaS1⟩,
   ⟨0xf, 0xf, fun _ _ => .vaS3⟩]

/-- The rows of a port's format. -/
def Port.rows : Port → List OpRow
  | .hv => hvReadRows ++ hvWriteRows
  | .hc => hcRows
  | .dv => dvRows
  | .va => vaRows

/-- The operation a bus word stands for, or why it stands for none. HV, HC and DV define every word of their width (R310);
of the VA words eight are reserved (R304). -/
def decode (b : BusWord) : Except DecodeError Instr :=
  if 2 ^ b.port.width ≤ b.word.toNat then .error (.wordTooWide b.port)
  else
    match b.port.rows.find? (fun r => b.word &&& r.mask == r.pat) with
    | some r => .ok (r.make b.word b.data)
    | none => .error (.reservedVicAccess b.word)

/-- R307: the sprite number in its field. -/
def spriteBits (n : Nat) : Byte := BitVec.ofNat 8 n <<< 1

/-- R302. -/
def CiaId.bits : CiaId → Byte
  | .cia1 => 0x00
  | .cia2 => 0x10

/-- R303. -/
def ViaId.bits : ViaId → Byte
  | .via1 => 0x00
  | .via2 => 0x10

/-- The word an operation is presented as, with its data byte (0 for a read, which has none), from the encodings of R301-R304. -/
def encode : Instr → BusWord
  | .rVicMnX n => ⟨.hv, 0x40 ||| spriteBits n, 0⟩
  | .rVicMnY n => ⟨.hv, 0x41 ||| spriteBits n, 0⟩
  | .rVicMsbx => ⟨.hv, 0x50, 0⟩
  | .rVicCr1 => ⟨.hv, 0x51, 0⟩
  | .rVicRaster => ⟨.hv, 0x52, 0⟩
  | .rVicLpx => ⟨.hv, 0x53, 0⟩
  | .rVicLpy => ⟨.hv, 0x54, 0⟩
  | .rVicMxe => ⟨.hv, 0x55, 0⟩
  | .rVicCr2 => ⟨.hv, 0x56, 0⟩
  | .rVicMxye => ⟨.hv, 0x57, 0⟩
  | .rVicMemptr => ⟨.hv, 0x58, 0⟩
  | .rVicIrr => ⟨.hv, 0x59, 0⟩
  | .rVicImr => ⟨.hv, 0x5a, 0⟩
  | .rVicMxdp => ⟨.hv, 0x5b, 0⟩
  | .rVicMxmc => ⟨.hv, 0x5c, 0⟩
  | .rVicMxxe => ⟨.hv, 0x5d, 0⟩
  | .rVicMm => ⟨.hv, 0x5e, 0⟩
  | .rVicMd => ⟨.hv, 0x5f, 0⟩
  | .rVicEc => ⟨.hv, 0x60, 0⟩
  | .rVicB0c => ⟨.hv, 0x61, 0⟩
  | .rVicB1c => ⟨.hv, 0x62, 0⟩
  | .rVicB2c => ⟨.hv, 0x63, 0⟩
  | .rVicB3c => ⟨.hv, 0x64, 0⟩
  | .rVicMm0 => ⟨.hv, 0x65, 0⟩
  | .rVicMm1 => ⟨.hv, 0x66, 0⟩
  | .rVicM0c => ⟨.hv, 0x67, 0⟩
  | .rVicM1c => ⟨.hv, 0x68, 0⟩
  | .rVicM2c => ⟨.hv, 0x69, 0⟩
  | .rVicM3c => ⟨.hv, 0x6a, 0⟩
  | .rVicM4c => ⟨.hv, 0x6b, 0⟩
  | .rVicM5c => ⟨.hv, 0x6c, 0⟩
  | .rVicM6c => ⟨.hv, 0x6d, 0⟩
  | .rVicM7c => ⟨.hv, 0x6e, 0⟩
  | .rVicUnused2F => ⟨.hv, 0x6f, 0⟩
  | .rVicUnused30 => ⟨.hv, 0x70, 0⟩
  | .rVicUnused31 => ⟨.hv, 0x71, 0⟩
  | .rVicUnused32 => ⟨.hv, 0x72, 0⟩
  | .rVicUnused33 => ⟨.hv, 0x73, 0⟩
  | .rVicUnused34 => ⟨.hv, 0x74, 0⟩
  | .rVicUnused35 => ⟨.hv, 0x75, 0⟩
  | .rVicUnused36 => ⟨.hv, 0x76, 0⟩
  | .rVicUnused37 => ⟨.hv, 0x77, 0⟩
  | .rVicUnused38 => ⟨.hv, 0x78, 0⟩
  | .rVicUnused39 => ⟨.hv, 0x79, 0⟩
  | .rVicUnused3A => ⟨.hv, 0x7a, 0⟩
  | .rVicUnused3B => ⟨.hv, 0x7b, 0⟩
  | .rVicUnused3C => ⟨.hv, 0x7c, 0⟩
  | .rVicUnused3D => ⟨.hv, 0x7d, 0⟩
  | .rVicUnused3E => ⟨.hv, 0x7e, 0⟩
  | .rVicUnused3F => ⟨.hv, 0x7f, 0⟩
  | .wVicMnX n d => ⟨.hv, 0x00 ||| spriteBits n, d⟩
  | .wVicMnY n d => ⟨.hv, 0x01 ||| spriteBits n, d⟩
  | .wVicMsbx d => ⟨.hv, 0x10, d⟩
  | .wVicCr1 d => ⟨.hv, 0x11, d⟩
  | .wVicRaster d => ⟨.hv, 0x12, d⟩
  | .wVicLpx d => ⟨.hv, 0x13, d⟩
  | .wVicLpy d => ⟨.hv, 0x14, d⟩
  | .wVicMxe d => ⟨.hv, 0x15, d⟩
  | .wVicCr2 d => ⟨.hv, 0x16, d⟩
  | .wVicMxye d => ⟨.hv, 0x17, d⟩
  | .wVicMemptr d => ⟨.hv, 0x18, d⟩
  | .wVicIrr d => ⟨.hv, 0x19, d⟩
  | .wVicImr d => ⟨.hv, 0x1a, d⟩
  | .wVicMxdp d => ⟨.hv, 0x1b, d⟩
  | .wVicMxmc d => ⟨.hv, 0x1c, d⟩
  | .wVicMxxe d => ⟨.hv, 0x1d, d⟩
  | .wVicMm d => ⟨.hv, 0x1e, d⟩
  | .wVicMd d => ⟨.hv, 0x1f, d⟩
  | .wVicEc d => ⟨.hv, 0x20, d⟩
  | .wVicB0c d => ⟨.hv, 0x21, d⟩
  | .wVicB1c d => ⟨.hv, 0x22, d⟩
  | .wVicB2c d => ⟨.hv, 0x23, d⟩
  | .wVicB3c d => ⟨.hv, 0x24, d⟩
  | .wVicMm0 d => ⟨.hv, 0x25, d⟩
  | .wVicMm1 d => ⟨.hv, 0x26, d⟩
  | .wVicM0c d => ⟨.hv, 0x27, d⟩
  | .wVicM1c d => ⟨.hv, 0x28, d⟩
  | .wVicM2c d => ⟨.hv, 0x29, d⟩
  | .wVicM3c d => ⟨.hv, 0x2a, d⟩
  | .wVicM4c d => ⟨.hv, 0x2b, d⟩
  | .wVicM5c d => ⟨.hv, 0x2c, d⟩
  | .wVicM6c d => ⟨.hv, 0x2d, d⟩
  | .wVicM7c d => ⟨.hv, 0x2e, d⟩
  | .wVicUnused2F d => ⟨.hv, 0x2f, d⟩
  | .wVicUnused30 d => ⟨.hv, 0x30, d⟩
  | .wVicUnused31 d => ⟨.hv, 0x31, d⟩
  | .wVicUnused32 d => ⟨.hv, 0x32, d⟩
  | .wVicUnused33 d => ⟨.hv, 0x33, d⟩
  | .wVicUnused34 d => ⟨.hv, 0x34, d⟩
  | .wVicUnused35 d => ⟨.hv, 0x35, d⟩
  | .wVicUnused36 d => ⟨.hv, 0x36, d⟩
  | .wVicUnused37 d => ⟨.hv, 0x37, d⟩
  | .wVicUnused38 d => ⟨.hv, 0x38, d⟩
  | .wVicUnused39 d => ⟨.hv, 0x39, d⟩
  | .wVicUnused3A d => ⟨.hv, 0x3a, d⟩
  | .wVicUnused3B d => ⟨.hv, 0x3b, d⟩
  | .wVicUnused3C d => ⟨.hv, 0x3c, d⟩
  | .wVicUnused3D d => ⟨.hv, 0x3d, d⟩
  | .wVicUnused3E d => ⟨.hv, 0x3e, d⟩
  | .wVicUnused3F d => ⟨.hv, 0x3f, d⟩
  | .rCiaPra c => ⟨.hc, 0x20 ||| c.bits, 0⟩
  | .rCiaPrb c => ⟨.hc, 0x21 ||| c.bits, 0⟩
  | .rCiaDdra c => ⟨.hc, 0x22 ||| c.bits, 0⟩
  | .rCiaDdrb c => ⟨.hc, 0x23 ||| c.bits, 0⟩
  | .rCiaTaLo c => ⟨.hc, 0x24 ||| c.bits, 0⟩
  | .rCiaTaHi c => ⟨.hc, 0x25 ||| c.bits, 0⟩
  | .rCiaTbLo c => ⟨.hc, 0x26 ||| c.bits, 0⟩
  | .rCiaTbHi c => ⟨.hc, 0x27 ||| c.bits, 0⟩
  | .rCiaTod10ths c => ⟨.hc, 0x28 ||| c.bits, 0⟩
  | .rCiaTodSec c => ⟨.hc, 0x29 ||| c.bits, 0⟩
  | .rCiaTodMin c => ⟨.hc, 0x2a ||| c.bits, 0⟩
  | .rCiaTodHrs c => ⟨.hc, 0x2b ||| c.bits, 0⟩
  | .rCiaSdr c => ⟨.hc, 0x2c ||| c.bits, 0⟩
  | .rCiaIcr c => ⟨.hc, 0x2d ||| c.bits, 0⟩
  | .rCiaCra c => ⟨.hc, 0x2e ||| c.bits, 0⟩
  | .rCiaCrb c => ⟨.hc, 0x2f ||| c.bits, 0⟩
  | .wCiaPra c d => ⟨.hc, 0x00 ||| c.bits, d⟩
  | .wCiaPrb c d => ⟨.hc, 0x01 ||| c.bits, d⟩
  | .wCiaDdra c d => ⟨.hc, 0x02 ||| c.bits, d⟩
  | .wCiaDdrb c d => ⟨.hc, 0x03 ||| c.bits, d⟩
  | .wCiaTaLo c d => ⟨.hc, 0x04 ||| c.bits, d⟩
  | .wCiaTaHi c d => ⟨.hc, 0x05 ||| c.bits, d⟩
  | .wCiaTbLo c d => ⟨.hc, 0x06 ||| c.bits, d⟩
  | .wCiaTbHi c d => ⟨.hc, 0x07 ||| c.bits, d⟩
  | .wCiaTod10ths c d => ⟨.hc, 0x08 ||| c.bits, d⟩
  | .wCiaTodSec c d => ⟨.hc, 0x09 ||| c.bits, d⟩
  | .wCiaTodMin c d => ⟨.hc, 0x0a ||| c.bits, d⟩
  | .wCiaTodHrs c d => ⟨.hc, 0x0b ||| c.bits, d⟩
  | .wCiaSdr c d => ⟨.hc, 0x0c ||| c.bits, d⟩
  | .wCiaIcr c d => ⟨.hc, 0x0d ||| c.bits, d⟩
  | .wCiaCra c d => ⟨.hc, 0x0e ||| c.bits, d⟩
  | .wCiaCrb c d => ⟨.hc, 0x0f ||| c.bits, d⟩
  | .rViaOrb v => ⟨.dv, 0x20 ||| v.bits, 0⟩
  | .rViaOra v => ⟨.dv, 0x21 ||| v.bits, 0⟩
  | .rViaDdrb v => ⟨.dv, 0x22 ||| v.bits, 0⟩
  | .rViaDdra v => ⟨.dv, 0x23 ||| v.bits, 0⟩
  | .rViaT1cl v => ⟨.dv, 0x24 ||| v.bits, 0⟩
  | .rViaT1ch v => ⟨.dv, 0x25 ||| v.bits, 0⟩
  | .rViaT1ll v => ⟨.dv, 0x26 ||| v.bits, 0⟩
  | .rViaT1lh v => ⟨.dv, 0x27 ||| v.bits, 0⟩
  | .rViaT2cl v => ⟨.dv, 0x28 ||| v.bits, 0⟩
  | .rViaT2ch v => ⟨.dv, 0x29 ||| v.bits, 0⟩
  | .rViaSr v => ⟨.dv, 0x2a ||| v.bits, 0⟩
  | .rViaAcr v => ⟨.dv, 0x2b ||| v.bits, 0⟩
  | .rViaPcr v => ⟨.dv, 0x2c ||| v.bits, 0⟩
  | .rViaIfr v => ⟨.dv, 0x2d ||| v.bits, 0⟩
  | .rViaIer v => ⟨.dv, 0x2e ||| v.bits, 0⟩
  | .rViaOraNh v => ⟨.dv, 0x2f ||| v.bits, 0⟩
  | .wViaOrb v d => ⟨.dv, 0x00 ||| v.bits, d⟩
  | .wViaOra v d => ⟨.dv, 0x01 ||| v.bits, d⟩
  | .wViaDdrb v d => ⟨.dv, 0x02 ||| v.bits, d⟩
  | .wViaDdra v d => ⟨.dv, 0x03 ||| v.bits, d⟩
  | .wViaT1cl v d => ⟨.dv, 0x04 ||| v.bits, d⟩
  | .wViaT1ch v d => ⟨.dv, 0x05 ||| v.bits, d⟩
  | .wViaT1ll v d => ⟨.dv, 0x06 ||| v.bits, d⟩
  | .wViaT1lh v d => ⟨.dv, 0x07 ||| v.bits, d⟩
  | .wViaT2cl v d => ⟨.dv, 0x08 ||| v.bits, d⟩
  | .wViaT2ch v d => ⟨.dv, 0x09 ||| v.bits, d⟩
  | .wViaSr v d => ⟨.dv, 0x0a ||| v.bits, d⟩
  | .wViaAcr v d => ⟨.dv, 0x0b ||| v.bits, d⟩
  | .wViaPcr v d => ⟨.dv, 0x0c ||| v.bits, d⟩
  | .wViaIfr v d => ⟨.dv, 0x0d ||| v.bits, d⟩
  | .wViaIer v d => ⟨.dv, 0x0e ||| v.bits, d⟩
  | .wViaOraNh v d => ⟨.dv, 0x0f ||| v.bits, d⟩
  | .vaR => ⟨.va, 0x0, 0⟩
  | .vaI => ⟨.va, 0x1, 0⟩
  | .vaG => ⟨.va, 0x3, 0⟩
  | .vaP => ⟨.va, 0x4, 0⟩
  | .vaS2 => ⟨.va, 0x6, 0⟩
  | .vaC => ⟨.va, 0xa, 0⟩
  | .vaS1 => ⟨.va, 0xd, 0⟩
  | .vaS3 => ⟨.va, 0xf, 0⟩

/-- The port whose format a table word of `nbits` bits is read in where nothing else names the port: the exact widths of R300,
and for a whole byte the widest format, HV, which gives every 7-bit word a meaning (notes/assumptions/2.md). -/
def tablePort : Nat → Option Port
  | 4 => some .va
  | 6 => some .hc
  | 7 => some .hv
  | 8 => some .hv
  | _ => none

/-- What the decoder reads from the table word `w` of `nbits` bits, with every operand bit above it (the data byte) 0. -/
def decodeTableWord (nbits w : Nat) : Option Instr :=
  match tablePort nbits with
  | none => none
  | some p =>
    if 2 ^ 8 ≤ w then none
    else
      match decode ⟨p, BitVec.ofNat 8 w, 0⟩ with
      | .ok i => some i
      | .error _ => none

end Sys2Proof
end

