-- ==== Sys2Proof/Machine/State.lean ====
section
/-!
DEFINITION. The state of the CORE block: every field of spec/10_state.md, the external memories the VIC reads, the inputs
that wait to be presented to the block, and the reset state. INVENTORY.md lists each field with its rule and reset value.
-/

namespace Sys2Proof.Machine

/-- R442: the machine has no halting state, and a state outside its range is recovered from (R1301). So no fault has a name. -/
inductive Fault where
  deriving DecidableEq, Repr

/-- Why a run is outside the spec (R1302), or an operation outside its slot. -/
inductive Refusal where
  /-- Raised by an arm of `exec` whose operation has no meaning yet. Safe. -/
  | notModelled (mnemonic : String)
  /-- R1302 code 2, raised by `cycleWith`: an NTSC run without a cycle table that agrees with R702. Safe. -/
  | ntscTableMissing
  /-- R1302 code 3, raised by a g-access: ECM with BMM or MCM on a 65xx chip (R306, D46). Safe. -/
  | vic65xxGlitch
  /-- R1302 code 4, raised by the host operation that asserts Ultimax mode (R202, D41). Safe. -/
  | ultimax
  /-- R1302 code 5, raised where the VIC's word is reserved (R304). Safe. -/
  | reservedVicAccess
  /-- Raised by `execVaP`, `execVaS1`, `execVaS2`, `execVaS3` in a cycle whose table entry has no sprite access in that
  half: R840-R843 make these accesses in cycles P(n) and P(n)+1 only. No step reaches it, with any table. Safe. -/
  | noSpriteSlot
  /-- U22, raised by the host operation `insertDisk` with an image that is none of R1151's or R1101's. Safe. -/
  | invalidImage
  deriving DecidableEq, Repr

/-- R1301: the diagnostic codes. -/
inductive Diagnostic where
  | unknownAddress
  | invariantViolation
  | viaShiftModeUnsupported
  deriving DecidableEq, Repr

/-- R441: what the block puts in the host's message queue. -/
inductive Message where
  | vsync
  | diagnostic (d : Diagnostic)
  deriving DecidableEq, Repr

/-- R100, R1300, R1310: the sources that pull each interrupt line; a line is low while any of its sources pulls. -/
structure Lines where
  irqVic : Bool
  irqCia1 : Bool
  irqExpansion : Bool
  nmiCia2 : Bool
  nmiExpansion : Bool
  nmiRestore : Bool
  driveIrqVia1 : Bool
  driveIrqVia2 : Bool
  deriving DecidableEq, Repr

/-- R104: the graphics data sequencer. -/
structure GfxShift where
  data : Byte
  canLoad : Bool
  mcFlop : Bool
  latchedCharacter : Byte
  latchedColor : Nibble
  colorbits : BitVec 2
  remainingBits : Nat
  deriving DecidableEq, Repr

/-- R105: one sprite's shift register `ssr[n]`. -/
structure SpriteShift where
  data : BitVec 24
  chunk1 : Byte
  chunk2 : Byte
  chunk3 : Byte
  remainingBits : Nat
  active : Bool
  mcFlop : Bool
  expFlop : Bool
  colBits : BitVec 2
  /-- R850 "matched at most once per line": this line's match has been made (notes/assumptions/13.md). -/
  matched : Bool
  deriving DecidableEq, Repr

/-- R105: one sprite. -/
structure Sprite where
  mc : BitVec 6
  mcbase : BitVec 6
  /-- The pointer byte shifted left 6. -/
  ptr : BitVec 16
  dma : Bool
  display : Bool
  /-- The Y-expansion flip-flop. -/
  expansionFF : Bool
  ssr : SpriteShift
  deriving DecidableEq, Repr

/-- R106: the main and vertical border flip-flops. -/
structure BorderFF where
  main : Bool
  vertical : Bool
  deriving DecidableEq, Repr

/-- R106, R108: `TimeDelayed<u16,4>`; `v0` is this cycle's value, `v3` the value three cycles ago. -/
structure BaLine where
  v0 : BitVec 16
  v1 : BitVec 16
  v2 : BitVec 16
  v3 : BitVec 16
  deriving DecidableEq, Repr

/-- R103, R108: `TimeDelayed<u32,3>` of g-access results: g-data 7..0, character 15..8, colour 19..16. -/
structure GAccess where
  v0 : BitVec 32
  v1 : BitVec 32
  v2 : BitVec 32
  deriving DecidableEq, Repr

/-- R107, R940: which of the two frame buffers is being written. -/
inductive BufferId where
  | one
  | two
  deriving DecidableEq, Repr

/-- R920: the depth of a drawn pixel, as what won it. R107 gives no encoding (notes/assumptions/12.md). -/
inductive Layer where
  | background
  | foreground
  | sprite (n : Nat)
  deriving DecidableEq, Repr

/-- R101-R107: the VIC-II. -/
structure Vic where
  /-- `reg.current` (R101). -/
  reg : VicRegs
  /-- `reg.delayed` (R110). -/
  regDelayed : VicRegs
  lpx : Byte
  lpy : Byte
  rasterIrqLine : BitVec 9
  irr : Byte
  imr : Byte
  refreshCounter : Byte
  xCounter : BitVec 16
  yCounter : BitVec 32
  /-- 1..CyclesPerLine (R16). -/
  rasterCycle : Nat
  rasterMatchLatched : Bool
  vblank : Bool
  lpTriggeredThisFrame : Bool
  lpPin : Bool
  vc : BitVec 10
  vcBase : BitVec 10
  rc : BitVec 3
  vmli : BitVec 6
  /-- `videoMatrix[40]`. -/
  videoMatrix : List Byte
  /-- `colorLine[40]`. -/
  colorLine : List Nibble
  badLine : Bool
  /-- `DENwasSetInRasterline30`. -/
  denWasSet : Bool
  displayState : Bool
  gAccess : GAccess
  sr : GfxShift
  sprites : Eight Sprite
  clearedBitsInD017 : Byte
  /-- `flipflops.current`. -/
  ff : BorderFF
  /-- `flipflops.delayed`. -/
  ffDelayed : BorderFF
  baLine : BaLine
  /-- `vicOwnsPhi2` of this cycle (R411): the VIC holds AEC. -/
  aec : Bool
  spriteSpriteCollision : Byte
  spriteBackgroundCollision : Byte
  /-- Cells of `row * 384 + X`. -/
  screenBuffer1 : Memory
  screenBuffer2 : Memory
  workingBuffer : BufferId
  zBuffer : Eight Layer
  pixelSource : Eight (BitVec 9)
  deriving DecidableEq, Repr

/-- R113: a time or alarm setting, BCD; bit 7 of the hour is PM. -/
structure TodTime where
  tenth : Byte
  sec : Byte
  min : Byte
  hour : Byte
  deriving DecidableEq, Repr

/-- R113. -/
structure Tod where
  time : TodTime
  alarm : TodTime
  latch : TodTime
  latched : Bool
  stopped : Bool
  divider : Nat
  deriving DecidableEq, Repr

/-- R111-R113: one CIA. `tiredness` and `wakeUpCycle` are not architectural (R560). -/
structure Cia where
  counterA : BitVec 16
  counterB : BitVec 16
  latchA : BitVec 16
  latchB : BitVec 16
  cra : Byte
  crb : Byte
  icr : Byte
  imr : Byte
  int : Bool
  paLatch : Byte
  pbLatch : Byte
  ddra : Byte
  ddrb : Byte
  /-- What the chip drives on port A: `PALatch | ~DDRA`. -/
  pa : Byte
  pb : Byte
  extPA : Byte
  extPB : Byte
  sdr : Byte
  serShift : Byte
  serClk : Bool
  serCounter : Byte
  sdrPending : Bool
  cntPin : Bool
  flagPin : Bool
  spPin : Bool
  pb6Out : Bool
  pb7Out : Bool
  /-- The event pipeline (R501). -/
  delay : BitVec 64
  feed : BitVec 64
  tod : Tod
  deriving DecidableEq, Repr

/-- R114, R115: one VIA. -/
structure Via where
  ora : Byte
  orb : Byte
  ddra : Byte
  ddrb : Byte
  ira : Byte
  irb : Byte
  t1Counter : BitVec 16
  t1Latch : BitVec 16
  t2Counter : BitVec 16
  t2LatchLo : Byte
  t1Armed : Bool
  t2Armed : Bool
  t1ReloadPending : Bool
  pb7T1Out : Bool
  sr : Byte
  acr : Byte
  pcr : Byte
  ifr : Byte
  ier : Byte
  ca1 : Bool
  ca2 : Bool
  cb1 : Bool
  cb2 : Bool
  ca2Pulse : Bool
  cb2Pulse : Bool
  /-- Host pins of port A and B, for the bits R1002 and R1003 wire to nothing. -/
  extPA : Byte
  extPB : Byte
  /-- Host pins of VIA1's unconnected control lines (R1002: default 1); VIA2 has none (`State.viaControlIn`). -/
  extCA2 : Bool
  extCB1 : Bool
  extCB2 : Bool
  pb6Prev : Bool
  deriving DecidableEq, Repr

/-- R1100: one half-track: its length in bits and its bit stream (bit 0 first). -/
structure Track where
  length : BitVec 16
  data : List Bool
  deriving DecidableEq, Repr

/-- R116: the disk surface; half-track h is entry h-1. -/
structure Disk where
  inserted : Bool
  tracks : List Track
  writeProtected : Bool
  deriving DecidableEq, Repr

/-- R116: the read/write head. -/
structure Head where
  /-- Half-track h of 1..84 is held as h - 1, as in `Disk.tracks`. -/
  halftrack : Fin 84
  bitoffset : BitVec 16
  zone : BitVec 2
  readShiftreg : BitVec 16
  writeShiftreg : Byte
  sync : Bool
  byteReadyCounter : BitVec 3
  /-- Signed, in quarter-microseconds. -/
  bitReadyTimer : BitVec 16
  stepperPhase : BitVec 2
  changeSignal : Bool
  changeTimer : BitVec 32
  byteReadyLine : Bool
  deriving DecidableEq, Repr

/-- R117: the IEC bus (1 = released), its dirty flags, and the values last given to the host's `updateCiaPins` and
`updateDevicePins` (R441, R1204). -/
structure Iec where
  atnLine : Bool
  clkLine : Bool
  dataLine : Bool
  dirtyC64 : Bool
  dirtyDrive : Bool
  ciaPins : Byte × Byte
  devicePins : Byte × Byte
  deriving DecidableEq, Repr

/-- What the host CPU presents in one of its cycles (R411); the CPU is outside the block (R5). -/
inductive HostAccess where
  /-- No access to this block or to the memory the VIC sees; counts as a read cycle for BA. -/
  | idle
  /-- A read of host RAM (as the banking outside the block selects it, R203). -/
  | ramRead (addr : BitVec 16)
  | ramWrite (addr : BitVec 16) (data : Byte)
  /-- A read in the I/O page, `addr` in $D000-$DFFF (R203). -/
  | ioRead (addr : BitVec 16)
  | ioWrite (addr : BitVec 16) (data : Byte)
  /-- A call of a CIA's read or write with an offset, as R219's caller makes it. -/
  | ciaCallRead (c : CiaId) (offset : Nat)
  | ciaCallWrite (c : CiaId) (offset : Nat) (data : Byte)
  deriving DecidableEq, Repr

/-- What the drive CPU presents in one of its cycles (R421); only addresses R205 names reach the block. -/
inductive DriveAccess where
  | idle
  | read (addr : BitVec 16)
  | write (addr : BitVec 16) (data : Byte)
  deriving DecidableEq, Repr

/-- R1140: a disk image: a D64 (its sectors' bytes, in order) or a G64 (84 half-tracks as given). -/
inductive DiskImage where
  | d64 (bytes : List Byte) (writeProtected : Bool)
  | g64 (tracks : List Track) (writeProtected : Bool)
  deriving DecidableEq, Repr

/-- R440 `configure`: the revisions as asked for (`none`: a name that is no revision) and the other parameters. -/
structure ConfigRequest where
  vic : Option VicRevision
  cia : Option CiaRevision
  rest : Config
  deriving DecidableEq, Repr

/-- The ports `setPins` sets (R440). -/
inductive PinPort where
  | a
  | b
  deriving DecidableEq, Repr

/-- R440: the host operations, and R1400's power-on. `setSp`, `setControlPins` and `assertUltimax` present the inputs R112, R1002 and
R202 name. -/
inductive HostOp where
  | configure (request : ConfigRequest)
  | powerOn
  | resetHost
  | resetDrive
  | insertDisk (image : DiskImage)
  | ejectDisk
  | setCiaPins (c : CiaId) (port : PinPort) (levels : Byte)
  | setViaPins (v : ViaId) (port : PinPort) (levels : Byte)
  | setControlPins (ca2 cb1 cb2 : Bool)
  | setCnt (c : CiaId) (level : Bool)
  | setFlag (c : CiaId) (level : Bool)
  | setSp (c : CiaId) (level : Bool)
  | setLightPen (level : Bool)
  | pullNmiRestore
  | releaseNmiRestore
  | assertUltimax
  | suspend
  | resume
  | readFrame
  | warpMode
  | saveSnapshot
  deriving DecidableEq, Repr

/-- The whole machine. -/
structure State where
  /-- R10; `configure` sets it. -/
  cfg : Config
  cycle : BitVec 64
  frame : BitVec 64
  lines : Lines
  /-- Signed, in picoseconds. -/
  driveTimeAcc : BitVec 64
  vic : Vic
  cia1 : Cia
  cia2 : Cia
  via1 : Via
  via2 : Via
  disk : Disk
  head : Head
  iec : Iec
  /-- Host RAM, external to the block: what VIC accesses read (R201). -/
  ram : Memory
  /-- Colour RAM, 1024 nibbles, external to the block (R200). -/
  colorRam : Memory
  /-- The host CPU's coming cycles, the next first. -/
  hostQueue : List HostAccess
  /-- The drive CPU's coming cycles, the next first. -/
  driveQueue : List DriveAccess
  /-- The coming host operations, each with the number of system cycles to run before it. -/
  hostOps : List (Nat × HostOp)
  /-- The byte the block last returned to the host CPU. -/
  hostData : Byte
  /-- The byte the block last returned to the drive CPU. -/
  driveData : Byte
  /-- The address of the VIC's last memory read. -/
  vicAddr : BitVec 14
  /-- R441: at most 64, the oldest first. -/
  messages : List Message
  /-- Some diagnostic was raised (R1301). -/
  diagnosed : Bool
  /-- R1312: how often the drive CPU's SO pin was pulsed. -/
  soPulses : Nat
  /-- What `configure` last returned (R440). -/
  configureOk : Bool
  /-- How many free values were drawn: the next draw is the free value of this index. -/
  draws : Nat
  deriving DecidableEq, Repr

/-! ### Reset values (spec/10_state.md, column "reset") -/

def Lines.reset : Lines := ⟨false, false, false, false, false, false, false, false⟩

def GfxShift.reset : GfxShift := ⟨0, false, false, 0, 0, 0, 0⟩

def SpriteShift.reset : SpriteShift := ⟨0, 0, 0, 0, 0, false, false, false, 0, false⟩

def Sprite.reset : Sprite := ⟨0, 0, 0, false, false, true, SpriteShift.reset⟩

/-- R101-R107, R1401; the frame buffers as R1403 has them at power-on. `xCounter` is R705's value at cycle 1: (24 + 8 * (1 - 17)) mod 504.
R107 gives `zBuffer` and `pixelSource` no reset value: background and 0 are the model's (DESIGN CHOICE, notes/assumptions/32.md). -/
def Vic.reset : Vic where
  reg := VicRegs.zero
  regDelayed := VicRegs.zero
  lpx := 0
  lpy := 0
  rasterIrqLine := 0
  irr := 0
  imr := 0
  refreshCounter := 0xff
  xCounter := 400
  yCounter := 0
  rasterCycle := 1
  rasterMatchLatched := false
  vblank := false
  lpTriggeredThisFrame := false
  lpPin := true
  vc := 0
  vcBase := 0
  rc := 0
  vmli := 0
  videoMatrix := List.replicate 40 0
  colorLine := List.replicate 40 0
  badLine := false
  denWasSet := false
  displayState := false
  gAccess := ⟨0, 0, 0⟩
  sr := GfxShift.reset
  sprites := ⟨Sprite.reset, Sprite.reset, Sprite.reset, Sprite.reset, Sprite.reset, Sprite.reset, Sprite.reset, Sprite.reset⟩
  clearedBitsInD017 := 0
  ff := ⟨true, true⟩
  ffDelayed := ⟨true, true⟩
  baLine := ⟨0, 0, 0, 0⟩
  aec := false
  spriteSpriteCollision := 0
  spriteBackgroundCollision := 0
  screenBuffer1 := []
  screenBuffer2 := []
  workingBuffer := .one
  zBuffer := ⟨.background, .background, .background, .background, .background, .background, .background, .background⟩
  pixelSource := ⟨0, 0, 0, 0, 0, 0, 0, 0⟩

/-- R113: 01:00:00.0 AM, stopped; the alarm 0. -/
def Tod.reset : Tod where
  time := ⟨0, 0, 0, 0x01⟩
  alarm := ⟨0, 0, 0, 0⟩
  latch := ⟨0, 0, 0, 0x01⟩
  latched := false
  stopped := true
  divider := 0

/-- R111-R113, R1401. -/
def Cia.reset : Cia where
  counterA := 0xffff
  counterB := 0xffff
  latchA := 0xffff
  latchB := 0xffff
  cra := 0
  crb := 0
  icr := 0
  imr := 0
  int := false
  paLatch := 0
  pbLatch := 0
  ddra := 0
  ddrb := 0
  pa := 0xff
  pb := 0xff
  extPA := 0xff
  extPB := 0xff
  sdr := 0
  serShift := 0
  serClk := true
  serCounter := 0
  sdrPending := false
  cntPin := true
  flagPin := true
  spPin := true
  pb6Out := false
  pb7Out := false
  delay := 0
  feed := 0
  tod := Tod.reset

/-- R115, R1402. The timer counters and latches are unspecified there: 0 is this model's choice
(DESIGN CHOICE, notes/assumptions/4.md), and the host operation `resetDrive` draws them instead. -/
def Via.reset : Via where
  ora := 0
  orb := 0
  ddra := 0
  ddrb := 0
  ira := 0
  irb := 0
  t1Counter := 0
  t1Latch := 0
  t2Counter := 0
  t2LatchLo := 0
  t1Armed := false
  t2Armed := false
  t1ReloadPending := false
  pb7T1Out := true
  sr := 0
  acr := 0
  pcr := 0
  ifr := 0
  ier := 0
  ca1 := true
  ca2 := true
  cb1 := true
  cb2 := true
  ca2Pulse := false
  cb2Pulse := false
  extPA := 0xff
  extPB := 0xff
  extCA2 := true
  extCB1 := true
  extCB2 := true
  pb6Prev := true

/-- R1403: no disk; the half-track lengths are the parameter's (R1101). The spec says nothing of the write protection and the bits of
an empty drive: not protected and no bits (DESIGN CHOICE, notes/assumptions/40.md). -/
def Disk.powerOn (cfg : Config) : Disk where
  inserted := false
  tracks := cfg.trackBits.map (fun n => ⟨n, []⟩)
  writeProtected := false

/-- R116, R1402: half-track 35 (track 18), zone 0 and stepper phase 3 from the floating VIA2 port B. -/
def Head.reset : Head where
  halftrack := 34
  bitoffset := 0
  zone := 0
  readShiftreg := 0
  writeShiftreg := 0
  sync := false
  byteReadyCounter := 0
  bitReadyTimer := 0
  stepperPhase := 3
  changeSignal := false
  changeTimer := 0
  byteReadyLine := false

/-- R117. -/
def Iec.reset : Iec where
  atnLine := true
  clkLine := true
  dataLine := true
  dirtyC64 := false
  dirtyDrive := false
  ciaPins := (0xff, 0)
  devicePins := (0, 0)

/-- The reset values of R100-R117 in every field, and those of R1403 where no reset gives one. The dirty flags are false as R117 has them:
the host operations that reset a side set that side's (R1401, R1402; notes/assumptions/30.md). Nothing waits to be presented; host RAM
lists nothing and colour RAM holds `ColorRamInit`. -/
def State.resetIn (cfg : Config) : State where
  cfg := cfg
  cycle := 0
  frame := 0
  lines := Lines.reset
  driveTimeAcc := 0
  vic := Vic.reset
  cia1 := Cia.reset
  cia2 := Cia.reset
  via1 := Via.reset
  via2 := Via.reset
  disk := Disk.powerOn cfg
  head := Head.reset
  iec := Iec.reset
  ram := []
  colorRam := cfg.colorRamInit
  hostQueue := []
  driveQueue := []
  hostOps := []
  hostData := 0
  driveData := 0
  vicAddr := 0
  messages := []
  diagnosed := false
  soPulses := 0
  configureOk := true
  draws := 0

/-- The machine right after reset, in the configuration `Config.default`. -/
def State.reset : State := State.resetIn Config.default

end Sys2Proof.Machine
end

