-- ==== Sys2Proof/Machine/Fields.lean ====
section
/-!
DEFINITION. Bit fields, byte halves and the eight-fold vectors: the notation of spec/00_scope.md R13 as functions.
-/

namespace Sys2Proof.Machine

/-- `v[i]` (R13). -/
def bit {w : Nat} (v : BitVec w) (i : Nat) : Bool := v.getLsbD i

/-- `v` with bit i set to b. -/
def withBit {w : Nat} (v : BitVec w) (i : Nat) (b : Bool) : BitVec w :=
  if b then v ||| BitVec.twoPow w i else v &&& ~~~ (BitVec.twoPow w i)

/-- `v[lo+n-1 : lo]` (R13). -/
def field {w : Nat} (v : BitVec w) (lo n : Nat) : BitVec n := v.extractLsb' lo n

/-- The low and high byte of a 16-bit register pair (R206). -/
def loByte (v : BitVec 16) : Byte := v.extractLsb' 0 8
def hiByte (v : BitVec 16) : Byte := v.extractLsb' 8 8

/-- A register pair with its low (high) byte replaced (R206, R305). -/
def withLo (v : BitVec 16) (d : Byte) : BitVec 16 := hiByte v ++ d
def withHi (v : BitVec 16) (d : Byte) : BitVec 16 := d ++ loByte v

/-- The bits of a that the mask selects, and those of b elsewhere. -/
def selectBits {w : Nat} (mask a b : BitVec w) : BitVec w := (mask &&& a) ||| (~~~ mask &&& b)

/-- 1 for true: a line or flag as one bit. -/
def bitOf (b : Bool) : BitVec 1 := if b then 1 else 0

end Sys2Proof.Machine

namespace Sys2Proof

/-- Entry n, counted modulo 8: a sprite or pixel number is a 3-bit number (R13). -/
def Eight.get {α : Type} (v : Eight α) (n : Nat) : α :=
  match n % 8 with
  | 0 => v.e0
  | 1 => v.e1
  | 2 => v.e2
  | 3 => v.e3
  | 4 => v.e4
  | 5 => v.e5
  | 6 => v.e6
  | _ => v.e7

/-- `v` with entry n (modulo 8) replaced. -/
def Eight.set {α : Type} (v : Eight α) (n : Nat) (x : α) : Eight α :=
  match n % 8 with
  | 0 => { v with e0 := x }
  | 1 => { v with e1 := x }
  | 2 => { v with e2 := x }
  | 3 => { v with e3 := x }
  | 4 => { v with e4 := x }
  | 5 => { v with e5 := x }
  | 6 => { v with e6 := x }
  | _ => { v with e7 := x }

/-- Every entry replaced, the number beside it. -/
def Eight.mapIdx {α β : Type} (f : Nat → α → β) (v : Eight α) : Eight β :=
  ⟨f 0 v.e0, f 1 v.e1, f 2 v.e2, f 3 v.e3, f 4 v.e4, f 5 v.e5, f 6 v.e6, f 7 v.e7⟩

/-- Three vectors combined entry by entry. -/
def Eight.zipWith3 {α β γ δ : Type} (f : α → β → γ → δ) (u : Eight α) (v : Eight β) (w : Eight γ) : Eight δ :=
  ⟨f u.e0 v.e0 w.e0, f u.e1 v.e1 w.e1, f u.e2 v.e2 w.e2, f u.e3 v.e3 w.e3,
   f u.e4 v.e4 w.e4, f u.e5 v.e5 w.e5, f u.e6 v.e6 w.e6, f u.e7 v.e7 w.e7⟩

/-- Eight flags as the bits of a byte, entry n in bit n. -/
def Eight.toByte (v : Eight Bool) : Byte :=
  Machine.bitOf v.e7 ++ Machine.bitOf v.e6 ++ Machine.bitOf v.e5 ++ Machine.bitOf v.e4 ++
    Machine.bitOf v.e3 ++ Machine.bitOf v.e2 ++ Machine.bitOf v.e1 ++ Machine.bitOf v.e0

end Sys2Proof
end

