-- ==== Sys2Proof/Machine/Ops.lean ====
section
/-!
DEFINITION. The named operations over memory, chips, interrupt lines, the message queue and the free values. The block takes no
exception (spec/60_exceptions.md: no trap entry, no return): what stands in their place is pulling and releasing a line (R1310) and
raising a diagnostic (R1301), each ONE operation here.
-/

namespace Sys2Proof

/-- What a cell that nothing lists reads as. The spec leaves RAM, ROM and colour-RAM contents outside the block (U16) and gives the frame
buffers colour 0 at power-on (R1403). DESIGN CHOICE (notes/assumptions/5.md). -/
def Memory.unlisted : Byte := 0

def Memory.read (m : Memory) (a : Nat) : Byte :=
  match m with
  | [] => Memory.unlisted
  | (k, b) :: t => if k = a then b else Memory.read t a

/-- Writing keeps the canonical form: the cell is inserted at its place, or removed if it now reads as an unlisted one. -/
def Memory.write (m : Memory) (a : Nat) (v : Byte) : Memory :=
  match m with
  | [] => if v = Memory.unlisted then [] else [(a, v)]
  | (k, b) :: t =>
    if a < k then (if v = Memory.unlisted then (k, b) :: t else (a, v) :: (k, b) :: t)
    else if k = a then (if v = Memory.unlisted then t else (a, v) :: t)
    else (k, b) :: Memory.write t a v

/-- The canonical form: addresses strictly rising, no cell that reads as an unlisted one. -/
abbrev Memory.wf (m : Memory) : Prop :=
  m.Pairwise (fun x y => x.1 < y.1) ∧ ∀ c ∈ m, c.2 ≠ Memory.unlisted

end Sys2Proof

namespace Sys2Proof.Machine

/-- The outcome of one operation followed by another. -/
def andThen (o : Host.Outcome State Fault Refusal) (f : State → Host.Outcome State Fault Refusal) :
    Host.Outcome State Fault Refusal :=
  match o with
  | .next s => f s
  | .fault r => .fault r
  | .refused r => .refused r

/-! ### Chips -/

def State.cia (s : State) : CiaId → Cia
  | .cia1 => s.cia1
  | .cia2 => s.cia2

def State.setCia (s : State) (c : CiaId) (x : Cia) : State :=
  match c with
  | .cia1 => { s with cia1 := x }
  | .cia2 => { s with cia2 := x }

def State.via (s : State) : ViaId → Via
  | .via1 => s.via1
  | .via2 => s.via2

/-- The VIA's fields replaced, and nothing else: `State.updateVia` adds what a change of port B does. -/
def State.setViaFields (s : State) (v : ViaId) (x : Via) : State :=
  match v with
  | .via1 => { s with via1 := x }
  | .via2 => { s with via2 := x }

/-! ### Interrupt lines (R1310) -/

/-- R1300: the sources. -/
inductive Source where
  | vic
  | cia (c : CiaId)
  | via (v : ViaId)
  | restore
  deriving DecidableEq, Repr

/-- R1310 `pull` and `release`: the source does, or does not, hold its line low. Each source pulls one line (R1300). -/
def Lines.drive (l : Lines) (src : Source) (low : Bool) : Lines :=
  match src with
  | .vic => { l with irqVic := low }
  | .cia .cia1 => { l with irqCia1 := low }
  | .cia .cia2 => { l with nmiCia2 := low }
  | .via .via1 => { l with driveIrqVia1 := low }
  | .via .via2 => { l with driveIrqVia2 := low }
  | .restore => { l with nmiRestore := low }

def State.pull (s : State) (src : Source) : State := { s with lines := s.lines.drive src true }

def State.release (s : State) (src : Source) : State := { s with lines := s.lines.drive src false }

/-- The source holds its line exactly while the condition is true. -/
def State.driveLine (s : State) (src : Source) (low : Bool) : State := { s with lines := s.lines.drive src low }

/-- R1310: the CPU sees a line low exactly when some source pulls it. -/
def Lines.irqLow (l : Lines) : Bool := l.irqVic || l.irqCia1 || l.irqExpansion
def Lines.nmiLow (l : Lines) : Bool := l.nmiCia2 || l.nmiExpansion || l.nmiRestore
def Lines.driveIrqLow (l : Lines) : Bool := l.driveIrqVia1 || l.driveIrqVia2

/-! ### Messages and diagnostics -/

/-- R441. -/
def messageCapacity : Nat := 64

/-- R441: a bounded queue; on overflow the oldest message is dropped. -/
def putMessage (q : List Message) (m : Message) : List Message :=
  if q.length < messageCapacity then q ++ [m] else q.tail ++ [m]

def State.put (s : State) (m : Message) : State := { s with messages := putMessage s.messages m }

/-- R1301: the diagnostic is recorded and nothing else changes. -/
def State.raise (s : State) (d : Diagnostic) : State := { s.put (.diagnostic d) with diagnosed := true }

/-- R1301 code 2: a state found outside its range is replaced by the recovered one, with a diagnostic, and the machine goes on. -/
def State.recover (s : State) (inRange : Bool) (recovered : State) : State :=
  if inRange then s else recovered.raise .invariantViolation

/-- The nearest number of a range (R1301 "clamp", notes/assumptions/18.md). -/
def clamp (lo hi n : Nat) : Nat := max lo (min n hi)

/-! ### Free values -/

def State.drawByte (s : State) : Byte × State := (Config.freeByte s.draws, { s with draws := s.draws + 1 })

def State.drawNibble (s : State) : Nibble × State := (Config.freeNibble s.draws, { s with draws := s.draws + 1 })

def State.drawWord (s : State) : BitVec 16 × State := (Config.freeWord s.draws, { s with draws := s.draws + 1 })

/-! ### The data buses -/

/-- A host read ends with the byte on the host data bus. -/
def State.hostReturns (s : State) (v : Byte) : Host.Outcome State Fault Refusal := .next { s with hostData := v }

/-- A drive read ends with the byte on the drive data bus. -/
def State.driveReturns (s : State) (v : Byte) : Host.Outcome State Fault Refusal := .next { s with driveData := v }

/-! ### VIC registers -/

/-- Every register of `a` in the bits the mask selects, of `b` in the others. -/
def selectRegs (mask a b : VicRegs) : VicRegs where
  mxX := Eight.zipWith3 selectBits mask.mxX a.mxX b.mxX
  mxY := Eight.zipWith3 selectBits mask.mxY a.mxY b.mxY
  cr1 := selectBits mask.cr1 a.cr1 b.cr1
  mxe := selectBits mask.mxe a.mxe b.mxe
  cr2 := selectBits mask.cr2 a.cr2 b.cr2
  mxye := selectBits mask.mxye a.mxye b.mxye
  memptr := selectBits mask.memptr a.memptr b.memptr
  mxdp := selectBits mask.mxdp a.mxdp b.mxdp
  mxmc := selectBits mask.mxmc a.mxmc b.mxmc
  mxxe := selectBits mask.mxxe a.mxxe b.mxxe
  ec := selectBits mask.ec a.ec b.ec
  b0c := selectBits mask.b0c a.b0c b.b0c
  b1c := selectBits mask.b1c a.b1c b.b1c
  b2c := selectBits mask.b2c a.b2c b.b2c
  b3c := selectBits mask.b3c a.b3c b.b3c
  mm0 := selectBits mask.mm0 a.mm0 b.mm0
  mm1 := selectBits mask.mm1 a.mm1 b.mm1
  mxc := Eight.zipWith3 selectBits mask.mxc a.mxc b.mxc

/-- R600, R110: a write updates `reg.current` at once; `reg.delayed` keeps the bits the delay mask holds back and equals
`reg.current` in all others. -/
def State.writeVicReg (s : State) (r : VicRegs) : State :=
  { s with vic := { s.vic with reg := r, regDelayed := selectRegs s.cfg.delayMask s.vic.regDelayed r } }

/-! ### The memories the VIC reads -/

/-- R109: `vicBank = 3 - (CIA2.PA_out & 3)`. -/
def State.vicBank (s : State) : Nat := 3 - (s.cia2.pa.toNat % 4)

/-- R201: a VIC read of host RAM, or of the character ROM in banks 0 and 2. -/
def State.vicByte (s : State) (a : BitVec 14) : Byte :=
  if (s.vicBank = 0 ∨ s.vicBank = 2) ∧ a.toNat / 4096 = 1 then s.cfg.charRom.read (a.toNat % 4096)
  else s.ram.read (s.vicBank * 16384 + a.toNat)

/-- R201 `ColorRead`. -/
def State.colorNibble (s : State) (a : BitVec 10) : Nibble := (s.colorRam.read a.toNat).extractLsb' 0 4

/-- The VIC puts an address on its bus. -/
def State.vicBus (s : State) (a : BitVec 14) : State := { s with vicAddr := a }

end Sys2Proof.Machine
end

