-- ==== Sys2Proof/Machine/VicTable.lean ====
section
/-!
DEFINITION. The configuration-dependent constants (spec/00_scope.md R10, R11) and the VIC's cycle table (spec/43_vic_raster.md
R701, R702, R705, R730).
-/

namespace Sys2Proof.Machine

/-- R10. -/
def cyclesPerLine (cfg : Config) : Nat :=
  match cfg.vicRevision with
  | .pal6569 => 63
  | .ntsc6567 => 65

/-- R10 (C1). -/
def linesPerFrame (cfg : Config) : Nat :=
  match cfg.vicRevision with
  | .pal6569 => 312
  | .ntsc6567 => 263

/-- R11. -/
def cyclesPerFrame (cfg : Config) : Nat := cyclesPerLine cfg * linesPerFrame cfg

/-- R420: round(1e12 / HostClockHz), in picoseconds. -/
def hostCyclePs (cfg : Config) : BitVec 64 :=
  match cfg.vicRevision with
  | .pal6569 => 1014973
  | .ntsc6567 => 977778

/-- R420: 1e12 / DriveClockHz. -/
def driveCyclePs : BitVec 64 := 1000000

/-- R705: X(c, 0) of a PAL cycle, (24 + 8 * (c - 17)) mod 504. -/
def palX0 (c : Nat) : BitVec 16 := BitVec.ofNat 16 ((24 + 504 + 8 * c - 136) % 504)

/-- R730: P(n), sprite n's p-access cycle. -/
def palP (n : Nat) : Nat :=
  match n with
  | 0 => 58
  | 1 => 60
  | 2 => 62
  | 3 => 1
  | 4 => 3
  | 5 => 5
  | 6 => 7
  | _ => 9

/-- R730 `window(n)`: the cycles P(n)-3 .. P(n)+1, numbered in 1..63 modulo 63. -/
def palWindow (n c : Nat) : Bool := (c + 63 + 3 - palP n) % 63 < 5

/-- R701 column "BA pulled by", the sprites, from the windows of R730. -/
def palBaSprites (c : Nat) : Byte :=
  Eight.toByte ⟨palWindow 0 c, palWindow 1 c, palWindow 2 c, palWindow 3 c,
    palWindow 4 c, palWindow 5 c, palWindow 6 c, palWindow 7 c⟩

/-- A PAL row from its two access columns: the other columns follow from the cycle number (R701, R706, R730). -/
def palRow (c : Nat) (phi1 : Phi1Slot) (phi2 : Phi2Slot) : CycleRow where
  phi1 := phi1
  phi2 := phi2
  baSprites := palBaSprites c
  baBadLine := 12 ≤ c && c ≤ 54
  draw := 14 ≤ c && c ≤ 61
  x0 := palX0 c
  vcLoad := c == 14
  mcbase1 := c == 15
  mcbase2 := c == 16
  expToggle := c == 55
  dmaStart := c == 55 || c == 56
  rowEnd := c == 58

/-- R701: the accesses of the PAL 6569 in cycle c of 1..63. -/
def palAccess (c : Nat) : Phi1Slot × Phi2Slot :=
  match c with
  | 1 => (.p 3, .s1 3)
  | 2 => (.s2 3, .s3 3)
  | 3 => (.p 4, .s1 4)
  | 4 => (.s2 4, .s3 4)
  | 5 => (.p 5, .s1 5)
  | 6 => (.s2 5, .s3 5)
  | 7 => (.p 6, .s1 6)
  | 8 => (.s2 6, .s3 6)
  | 9 => (.p 7, .s1 7)
  | 10 => (.s2 7, .s3 7)
  | 11 => (.r, .cpu)
  | 12 => (.r, .cpu)
  | 13 => (.r, .cpu)
  | 14 => (.r, .cpu)
  | 15 => (.r, .c)
  | 55 => (.g, .cpu)
  | 56 => (.i, .cpu)
  | 57 => (.i, .cpu)
  | 58 => (.p 0, .s1 0)
  | 59 => (.s2 0, .s3 0)
  | 60 => (.p 1, .s1 1)
  | 61 => (.s2 1, .s3 1)
  | 62 => (.p 2, .s1 2)
  | 63 => (.s2 2, .s3 2)
  | _ => (.g, .c)

/-- R701: the PAL table. -/
def palRow? (c : Nat) : Option CycleRow :=
  if 1 ≤ c ∧ c ≤ 63 then some (palRow c (palAccess c).1 (palAccess c).2) else none

/-- R702: an NTSC table agrees with R701 in cycles 12..54 (the X coordinate is no column of R701). Its other rows may pair any two accesses:
each is made for the sprite its own column names (DESIGN CHOICE, notes/assumptions/11.md). -/
def ntscAgrees (t : NtscTable) : Bool :=
  t.rows.length == 65 &&
    (List.range 43).all fun k =>
      (t.rows[11 + k]?).map (fun r => { r with x0 := palX0 (12 + k) }) == palRow? (12 + k)

/-- R701, R702: the table entry of cycle c; `none` for an NTSC configuration without a table that agrees with R702. -/
def cycleRow? (cfg : Config) : Option (Nat → Option CycleRow) :=
  match cfg.vicRevision with
  | .pal6569 => some palRow?
  | .ntsc6567 =>
    match cfg.ntscTable with
    | none => none
    | some t => if ntscAgrees t then some (fun c => if c = 0 then none else t.rows[c - 1]?) else none

/-- The entry of the cycle `rasterCycle` numbers, where there is one. -/
def State.row? (s : State) : Option CycleRow := (cycleRow? s.cfg).bind (fun t => t s.vic.rasterCycle)

/-- R901: a g-access was made in the previous cycle of this line. -/
def State.gBefore (s : State) : Bool :=
  ((cycleRow? s.cfg).bind (fun t => t (s.vic.rasterCycle - 1))).map (·.phi1) == some .g

/-- The entry of cycle c for the VIC's step. Every cycle of a line has one (`entryOr_of_row`); the idle row stands for none. -/
def entryOr (table : Nat → Option CycleRow) (c : Nat) : CycleRow := (table c).getD (palRow c .i .cpu)

/-- R704: the lines of vertical blanking. -/
def inVblank (cfg : Config) (y : Nat) : Bool :=
  match cfg.vicRevision with
  | .pal6569 => 300 ≤ y || y ≤ 15
  | .ntsc6567 => (cfg.ntscTable.map (fun t => t.vblankLines.contains y)).getD false

end Sys2Proof.Machine
end

