-- ==== Sys2Proof/Machine/Operands.lean ====
section
/-!
DEFINITION. What the operations read: the named fields of the VIC's registers, the addresses of its accesses (spec/30_encoding.md
R306), and the levels the chips' ports see (spec/41_cia.md R510, R512, spec/46_via.md R1001-R1004, spec/48_iec.md R1201, R1203).
-/

namespace Sys2Proof

/-! ### Register fields (R101) -/

def VicRegs.ecm (r : VicRegs) : Bool := r.cr1.getLsbD 6
def VicRegs.bmm (r : VicRegs) : Bool := r.cr1.getLsbD 5
def VicRegs.den (r : VicRegs) : Bool := r.cr1.getLsbD 4
def VicRegs.rsel (r : VicRegs) : Bool := r.cr1.getLsbD 3
def VicRegs.yscroll (r : VicRegs) : BitVec 3 := r.cr1.extractLsb' 0 3
def VicRegs.mcm (r : VicRegs) : Bool := r.cr2.getLsbD 4
def VicRegs.csel (r : VicRegs) : Bool := r.cr2.getLsbD 3
def VicRegs.xscroll (r : VicRegs) : BitVec 3 := r.cr2.extractLsb' 0 3
def VicRegs.vm (r : VicRegs) : BitVec 4 := r.memptr.extractLsb' 4 4
def VicRegs.cb (r : VicRegs) : BitVec 3 := r.memptr.extractLsb' 1 3

/-- R311, R306: ECM with BMM or MCM, the illegal modes 5, 6 and 7. -/
def VicRegs.illegalMode (r : VicRegs) : Bool := r.ecm && (r.bmm || r.mcm)

/-- R101: CR2 and MEMPTR without the bits they lack. -/
def VicRegs.clamped (r : VicRegs) : VicRegs := { r with cr2 := r.cr2 &&& 0x3f, memptr := r.memptr &&& 0xfe }

/-- R912: the background colour `B[k]C`. -/
def VicRegs.background (r : VicRegs) (k : BitVec 2) : Nibble :=
  if k = 0 then r.b0c else if k = 1 then r.b1c else if k = 2 then r.b2c else r.b3c

end Sys2Proof

namespace Sys2Proof.Machine

/-! ### VIC access addresses (R306) -/

def refreshAddress (refreshCounter : Byte) : BitVec 14 := 0x3f00 ||| refreshCounter.setWidth 14

def idleAddress : BitVec 14 := 0x3fff

/-- `VM : vc`. -/
def cAddress (r : VicRegs) (vc : BitVec 10) : BitVec 14 := r.vm ++ vc

/-- ECM forces address bits 10 and 9 to 0. -/
def ecmMask (r : VicRegs) (a : BitVec 14) : BitVec 14 := if r.ecm then a &&& 0x39ff else a

/-- `CB : char : rc`, or `CB[2] : vc : rc` in the bitmap modes. -/
def gAddress (r : VicRegs) (ch : Byte) (vc : BitVec 10) (rc : BitVec 3) : BitVec 14 :=
  if r.bmm then ecmMask r ((r.cb.extractLsb' 2 1 ++ vc) ++ rc) else ecmMask r ((r.cb ++ ch) ++ rc)

/-- The g-access of idle state: 0x3FFF, 0x39FF with ECM. -/
def gIdleAddress (r : VicRegs) : BitVec 14 := ecmMask r 0x3fff

/-- `VM : 0b1111111 : n`. -/
def pAddress (r : VicRegs) (n : Nat) : BitVec 14 := (r.vm ++ (0x7f : BitVec 7)) ++ BitVec.ofNat 3 n

/-- `spritePtr[n] | mc[n]`. -/
def sAddress (ptr : BitVec 16) (mc : BitVec 6) : BitVec 14 := (ptr ||| mc.setWidth 16).setWidth 14

/-! ### CIA ports -/

/-- R510, R1201: the external levels of port A; on CIA2 bits 6 and 7 are the CLK and DATA lines. -/
def State.ciaExtPA (s : State) (c : CiaId) : Byte :=
  match c with
  | .cia1 => s.cia1.extPA
  | .cia2 => withBit (withBit s.cia2.extPA 6 s.iec.clkLine) 7 s.iec.dataLine

/-- R510. -/
def State.ciaReadPA (s : State) (c : CiaId) : Byte := (s.cia c).pa &&& s.ciaExtPA c

/-- R523: the timer outputs override PB6 and PB7 while PBON. -/
def timerPins (x : Cia) (v : Byte) : Byte :=
  let v := if bit x.cra 1 then withBit v 6 x.pb6Out else v
  if bit x.crb 1 then withBit v 7 x.pb7Out else v

/-- R512. -/
def ciaReadPB (x : Cia) : Byte := timerPins x (x.pb &&& x.extPB)

/-- R538: while CRA[6] = 1 the chip drives CNT with `serClk`, otherwise the host does. -/
def cntLevel (x : Cia) : Bool := if bit x.cra 6 then x.serClk else x.cntPin

/-! ### VIA ports -/

/-- R1001. -/
def viaPaOut (x : Via) : Byte := x.ora ||| ~~~ x.ddra

/-- R1001, R1023: PB7 is the timer output while ACR bit 7 is set. -/
def viaPbOut (x : Via) : Byte :=
  let v := x.orb ||| ~~~ x.ddrb
  if bit x.acr 7 then withBit v 7 x.pb7T1Out else v

/-- R1133: 1 unless a protected disk lies in the drive and the change signal is over. R1003 does not ask for the disk (DEDUCED,
notes/assumptions/44.md). -/
def State.wpSense (s : State) : Bool := !(s.disk.inserted && s.disk.writeProtected && !s.head.changeSignal)

/-- R1002, R1003: the levels outside port B; bits wired to nothing are the host's pins. -/
def State.viaPbIn (s : State) (v : ViaId) : Byte :=
  match v with
  | .via1 =>
    let x := withBit s.via1.extPB 0 (!s.iec.dataLine)
    let x := withBit x 2 (!s.iec.clkLine)
    let x := withBit x 5 (s.cfg.deviceNumber == .nine)
    let x := withBit x 6 false
    withBit x 7 (!s.iec.atnLine)
  | .via2 => withBit (withBit s.via2.extPB 4 s.wpSense) 7 (!s.head.sync)

/-- R1006 `paIn`: VIA2's port A is the head's data. -/
def State.viaPaIn (s : State) (v : ViaId) : Byte :=
  match v with
  | .via1 => s.via1.extPA
  | .via2 => s.head.readShiftreg.extractLsb' 0 8

/-- R1002, R1003: CA1 is ATN, inverted, on VIA1 and byte ready, inverted, on VIA2. -/
def State.viaCa1In (s : State) (v : ViaId) : Bool :=
  match v with
  | .via1 => !s.iec.atnLine
  | .via2 => !s.head.byteReadyLine

/-- The levels outside CA2, CB1 and CB2. -/
structure ControlIn where
  ca2 : Bool
  cb1 : Bool
  cb2 : Bool
  deriving DecidableEq, Repr

/-- VIA1's host pins. -/
def Via.hostPins (x : Via) : ControlIn := ⟨x.extCA2, x.extCB1, x.extCB2⟩

/-- R1002: VIA1's unconnected lines are host pins. R1003: VIA2's CB1 is 1, and its CA2 and CB2, which the table has as outputs, are pulled
high where PCR makes them inputs (R115; notes/assumptions/15.md). -/
def State.viaControlIn (s : State) (v : ViaId) : ControlIn :=
  match v with
  | .via1 => s.via1.hostPins
  | .via2 => ⟨true, true, true⟩

/-- R1004: output bits read the latch, input bits the pins or, with ACR bit 1, the latched pins. -/
def viaReadPB (x : Via) (pbIn : Byte) : Byte :=
  let pins := if bit x.acr 1 then x.irb else pbIn
  let v := (x.orb &&& x.ddrb) ||| (pins &&& ~~~ x.ddrb)
  if bit x.acr 7 then withBit v 7 x.pb7T1Out else v

/-- R1006. -/
def viaReadPA (x : Via) (paIn : Byte) : Byte :=
  let pins := if bit x.acr 0 then x.ira else paIn
  (x.ora &&& x.ddra) ||| (pins &&& ~~~ x.ddra)

/-- R1041: the control modes of CA2 (`PCR[3:1]`) and CB2 (`PCR[7:5]`). -/
def ca2Mode (pcr : Byte) : BitVec 3 := field pcr 1 3
def cb2Mode (pcr : Byte) : BitVec 3 := field pcr 5 3

/-- R1041: modes 000..011 make the line an input. -/
def isInputMode (m : BitVec 3) : Bool := !(bit m 2)

/-- R1041: modes 001 and 011 leave the flag alone on a port access. -/
def isIndependent (m : BitVec 3) : Bool := m == 1 || m == 3

end Sys2Proof.Machine
end

