-- ==== Sys2Proof/Machine/Flags.lean ====
section
/-!
DEFINITION. Every status bit's rule (spec/10_state.md R119): the VIC's interrupt register, the CIA's event pipeline and interrupt
sources, the VIA's interrupt flags.
-/

namespace Sys2Proof.Machine

/-! ### VIC interrupt register -/

/-- R660: the condition under which the VIC pulls IRQ. -/
def vicIrqCondition (irr imr : Byte) : Bool := (irr &&& imr &&& 0x0f) != 0

/-- R660 `updateVicIrq`. -/
def State.updateVicIrq (s : State) : State := s.driveLine .vic (vicIrqCondition s.vic.irr s.vic.imr)

/-- R623: what a read of IRR returns. -/
def irrRead (irr imr : Byte) : Byte :=
  (if vicIrqCondition irr imr then 0x80 else 0x00) ||| 0x70 ||| (irr &&& 0x0f)

/-! ### CIA event pipeline (R501): the bit of each stage -/

def dCountA0 : Nat := 0
def dCountA1 : Nat := 1
def dCountA2 : Nat := 2
def dCountA3 : Nat := 3
def dCountB0 : Nat := 4
def dCountB1 : Nat := 5
def dCountB2 : Nat := 6
def dCountB3 : Nat := 7
def dLoadA0 : Nat := 8
def dLoadA1 : Nat := 9
def dLoadB0 : Nat := 11
def dLoadB1 : Nat := 12
def dPB6Low0 : Nat := 14
def dPB6Low1 : Nat := 15
def dPB7Low0 : Nat := 16
def dPB7Low1 : Nat := 17
def dInterrupt0 : Nat := 18
def dInterrupt1 : Nat := 19
def dOneShotA0 : Nat := 20
def dOneShotB0 : Nat := 21
def dReadIcr0 : Nat := 22
def dClearIcr0 : Nat := 24
def dSetIcr0 : Nat := 27
def dSetIcr1 : Nat := 28
def dTODInt0 : Nat := 29
def dSerInt0 : Nat := 30
def dSerInt2 : Nat := 32
def dSerLoad0 : Nat := 33
def dSerLoad1 : Nat := 34

/-- R501: the defined stages, bits 0..37. -/
def definedStages : BitVec 64 := 0x3fffffffff

/-- R503: the stages `feed` may hold: CountA0, CountB0, OneShotA0, OneShotB0. -/
def stickyStages : BitVec 64 := 0x300011

/-- R501 `DelayMask`: 0 at every stage 0 (bits 0, 4, 8, 11, 14, 16, 18, 20, 21, 22, 24, 27, 29, 30, 33, 35), 1 elsewhere below bit 38. -/
def delayMask : BitVec 64 := 0x35968ab6ee

/-- R502: the end-of-tick shift. -/
def shiftDelay (delay feed : BitVec 64) : BitVec 64 := ((delay <<< 1) &&& delayMask) ||| feed

/-- `delay.X <- 1` and `delay.X <- 0` (R15). -/
def Cia.schedule (x : Cia) (stage : Nat) : Cia := { x with delay := withBit x.delay stage true }
def Cia.cancel (x : Cia) (stage : Nat) : Cia := { x with delay := withBit x.delay stage false }

/-- R503: a sticky stage-0 bit. -/
def Cia.setFeed (x : Cia) (stage : Nat) (b : Bool) : Cia := { x with feed := withBit x.feed stage b }

/-- R504, R537: the cause bit is set always, the interrupt scheduled if the cause is masked in. -/
def Cia.trigger (x : Cia) (k : Nat) : Cia :=
  let x := { x with icr := withBit x.icr k true }
  if bit x.imr k then (x.schedule dInterrupt0).schedule dSetIcr0 else x

/-- R530: what a read of ICR does to the chip; the value returned is `icr & 0x9F` before it. -/
def Cia.readIcr (x : Cia) : Cia :=
  let x := { x with int := false }
  let x := (x.cancel dInterrupt0).cancel dInterrupt1
  let x := { x with icr := x.icr &&& 0x80 }
  (x.schedule dClearIcr0).schedule dReadIcr0

/-- R532: a write of the mask. -/
def Cia.writeImr (x : Cia) (d : Byte) : Cia :=
  let x := { x with imr := if bit d 7 then x.imr ||| (d &&& 0x1f) else x.imr &&& ~~~ (d &&& 0x1f) }
  if x.icr &&& x.imr &&& 0x1f = 0 then
    (((x.cancel dInterrupt0).cancel dInterrupt1).cancel dSetIcr0).cancel dSetIcr1
  else if !x.int then (x.schedule dInterrupt0).schedule dSetIcr0
  else x

/-- R500: the line a chip's `INT` pulls is CIA1's IRQ or CIA2's NMI. -/
def State.ciaInterrupt (s : State) (c : CiaId) (low : Bool) : State := s.driveLine (.cia c) low

/-! ### VIA interrupt flags -/

/-- R1000: the condition under which a VIA pulls the drive IRQ. -/
def viaIrqCondition (x : Via) : Bool := (x.ifr &&& x.ier &&& 0x7f) != 0

/-- R1000 `updateViaIrq`. -/
def State.updateViaIrq (s : State) (v : ViaId) : State := s.driveLine (.via v) (viaIrqCondition (s.via v))

/-- R1036: what a read of IFR returns. -/
def ifrRead (x : Via) : Byte := (x.ifr &&& 0x7f) ||| (if viaIrqCondition x then 0x80 else 0x00)

/-- IFR bit numbers (R1036). -/
def ifrCA2 : Nat := 0
def ifrCA1 : Nat := 1
def ifrSR : Nat := 2
def ifrCB2 : Nat := 3
def ifrCB1 : Nat := 4
def ifrT2 : Nat := 5
def ifrT1 : Nat := 6

def Via.setIfr (x : Via) (k : Nat) : Via := { x with ifr := withBit x.ifr k true }
def Via.clearIfr (x : Via) (k : Nat) : Via := { x with ifr := withBit x.ifr k false }

/-- R1037. -/
def Via.writeIfr (x : Via) (d : Byte) : Via := { x with ifr := x.ifr &&& ~~~ (d &&& 0x7f) }

/-- R1039. -/
def Via.writeIer (x : Via) (d : Byte) : Via :=
  { x with ier := if bit d 7 then x.ier ||| (d &&& 0x7f) else x.ier &&& ~~~ (d &&& 0x7f) }

end Sys2Proof.Machine
end

