-- ==== Sys2Proof/Machine/CiaTick.lean ====
section
/-!
DEFINITION. The CIA's tick, serial register, pin edges and time-of-day clock (spec/41_cia.md R520-R524, R537, R538, R545, R550-R552,
R578, R579).
-/

namespace Sys2Proof.Machine

/-! ### Timer outputs and serial output -/

/-- R523 `pb6Event`. The pulse ends where its formula says, in the tick after this one, whose pipeline has `PB6Low1` (R502): it is high
for one phi2. The rule's words "two ticks later" are not followed (DEDUCED, notes/assumptions/34.md). -/
def Cia.pb6Event (x : Cia) : Cia :=
  if bit x.cra 1 then
    if bit x.cra 2 then { x with pb6Out := !x.pb6Out } else { x with pb6Out := true }.schedule dPB6Low0
  else x

/-- R523 `pb7Event`, as `pb6Event`. -/
def Cia.pb7Event (x : Cia) : Cia :=
  if bit x.crb 1 then
    if bit x.crb 2 then { x with pb7Out := !x.pb7Out } else { x with pb7Out := true }.schedule dPB7Low0
  else x

/-- R550 `serialUnderflow`: a falling clock edge puts the next bit on SP, a rising one completes it. -/
def Cia.serialUnderflow (x : Cia) : Cia :=
  if bit x.cra 6 && (x.serCounter != 0 || !x.serClk) then
    if x.serClk then
      { x with serClk := false, spPin := bit x.serShift 7, serShift := x.serShift <<< 1 }
    else
      let y := { x with serClk := true, serCounter := x.serCounter - 1 }
      if y.serCounter = 0 then y.schedule dSerInt0 else y
  else x

/-- R551 `serialTick`. -/
def Cia.serialTick (x : Cia) : Cia :=
  let x := if bit x.delay dSerLoad1 then { x with sdrPending := true } else x
  if bit x.cra 6 && x.sdrPending && x.serCounter == 0 && x.serClk then
    { x with serShift := x.sdr, serCounter := 8, sdrPending := false }
  else x

/-! ### The tick (R520) -/

/-- R520 steps 1 and 2 up to the counters: the decrements. -/
def Cia.decrement (x : Cia) : Cia :=
  { x with
    counterA := if bit x.delay dCountA3 then x.counterA - 1 else x.counterA
    counterB := if bit x.delay dCountB3 then x.counterB - 1 else x.counterB }

/-- R520 step 2. -/
def Cia.underA (x : Cia) : Bool := x.counterA == 0 && bit x.delay dCountA2
def Cia.underB (x : Cia) : Bool := x.counterB == 0 && bit x.delay dCountB2

/-- R520 step 3: a one-shot timer stops. -/
def Cia.stopA (x : Cia) : Cia :=
  if bit (x.delay ||| x.feed) dOneShotA0 then
    (((({ x with cra := withBit x.cra 0 false }).cancel dCountA0).cancel dCountA1).cancel dCountA2).setFeed dCountA0 false
  else x

/-- R520 step 4. -/
def Cia.stopB (x : Cia) : Cia :=
  if bit (x.delay ||| x.feed) dOneShotB0 then
    (((({ x with crb := withBit x.crb 0 false }).cancel dCountB0).cancel dCountB1).cancel dCountB2).setFeed dCountB0 false
  else x

/-- R520 step 3: timer B counts the underflow (R522, D40). -/
def Cia.cascade (x : Cia) : Cia :=
  if x.crb &&& 0x61 = 0x41 ∨ (x.crb &&& 0x61 = 0x61 ∧ cntLevel x = true) then x.schedule dCountB1 else x

/-- R520 step 3. -/
def Cia.underflowA (x : Cia) : Cia := ((x.stopA.cascade.schedule dLoadA1).pb6Event).serialUnderflow

/-- R520 step 4. -/
def Cia.underflowB (x : Cia) : Cia := (x.stopB.schedule dLoadB1).pb7Event

/-- R520 step 5. -/
def Cia.reload (x : Cia) : Cia :=
  let x := if bit x.delay dLoadA1 then { x with counterA := x.latchA }.cancel dCountA2 else x
  if bit x.delay dLoadB1 then { x with counterB := x.latchB }.cancel dCountB2 else x

/-- R520 step 6: the end of a pulse (R523, notes/assumptions/34.md). -/
def Cia.pulseEnds (x : Cia) : Cia :=
  { x with
    pb6Out := if bit x.delay dPB6Low1 then false else x.pb6Out
    pb7Out := if bit x.delay dPB7Low1 then false else x.pb7Out }

/-- R520 step 8. -/
def Cia.clearIr (x : Cia) : Cia := if bit x.delay dClearIcr0 then { x with icr := withBit x.icr 7 false } else x

/-- R520 step 9, R531: an underflow of timer B in the tick after an ICR read is not latched. -/
def Cia.sources (x : Cia) (underA underB : Bool) : Cia :=
  let x := if underA then x.trigger 0 else x
  let x := if underB && !(bit x.delay dReadIcr0) then x.trigger 1 else x
  let x := if bit x.delay dTODInt0 then x.trigger 2 else x
  if bit x.delay dSerInt2 then x.trigger 3 else x

/-- R520 step 10. -/
def Cia.delayedInterrupt (x : Cia) : Cia :=
  let x := if bit x.delay dSetIcr1 then { x with icr := withBit x.icr 7 true } else x
  if bit x.delay dInterrupt1 then { x with int := true } else x

/-- R520 step 11. -/
def Cia.shift (x : Cia) : Cia := { x with delay := shiftDelay x.delay x.feed }

/-- R520 steps 1 to 10, in order. -/
def Cia.tickBeforeShift (x : Cia) : Cia :=
  let x := x.decrement
  let uA := x.underA
  let uB := x.underB
  let x := if uA then x.underflowA else x
  let x := if uB then x.underflowB else x
  ((x.reload.pulseEnds.serialTick.clearIr).sources uA uB).delayedInterrupt

/-- R520. -/
def Cia.tick (x : Cia) : Cia := x.tickBeforeShift.shift

/-- R112: the most bits `serCounter` counts, 8 to shift out and 7 received. -/
def Cia.serLimit (x : Cia) : Nat := if bit x.cra 6 then 8 else 7

/-- R111, R113: a time without the bits its four registers lack. -/
def TodTime.clamped (t : TodTime) : TodTime := ⟨t.tenth &&& 0x0f, t.sec &&& 0x7f, t.min &&& 0x7f, t.hour &&& 0x9f⟩

/-- The undefined stages of `delay` (R501), the stages of `feed` that are not sticky (R503) and the bits the registers lack (R111) cleared,
and the counters at the nearest value in their ranges (R112, R113). -/
def Cia.clamped (x : Cia) : Cia :=
  { x with
    cra := x.cra &&& 0xef
    crb := x.crb &&& 0xef
    icr := x.icr &&& 0x9f
    imr := x.imr &&& 0x1f
    delay := x.delay &&& definedStages
    feed := x.feed &&& stickyStages
    serCounter := BitVec.ofNat 8 (clamp 0 x.serLimit x.serCounter.toNat)
    tod := { x.tod with
      time := x.tod.time.clamped
      alarm := x.tod.alarm.clamped
      latch := x.tod.latch.clamped
      divider := clamp 0 5 x.tod.divider } }

/-- A CIA is in its ranges where clamping changes nothing. -/
def Cia.inRange (x : Cia) : Bool := decide (x.clamped = x)

/-- R1301 code 2. -/
def State.checkCia (s : State) (c : CiaId) : State := s.recover (s.cia c).inRange (s.setCia c (s.cia c).clamped)

/-- R520 with R500: the tick, and the line it pulls at step 10. -/
def State.ciaTick (s : State) (c : CiaId) : State :=
  let s := s.checkCia c
  let fires := bit ((s.cia c).tickBeforeShift).delay dInterrupt1
  let s := s.setCia c (s.cia c).tick
  if fires then s.ciaInterrupt c true else s

/-! ### Pin edges -/

/-- R552: a bit received. -/
def Cia.serialInput (x : Cia) : Cia :=
  let x := { x with serShift := x.serShift <<< 1 ||| (bitOf x.spPin).setWidth 8, serCounter := x.serCounter + 1 }
  if x.serCounter = 8 then { x with sdr := x.serShift, serCounter := 0 }.schedule dSerInt0 else x

/-- R538 `setCnt`: host edges are ignored while the chip drives CNT. -/
def Cia.setCnt (x : Cia) (level : Bool) : Cia :=
  let y :=
    if !x.cntPin && level && !(bit x.cra 6) then
      let y := if bit x.cra 0 && bit x.cra 5 then x.schedule dCountA1 else x
      let y := if bit x.crb 0 && field x.crb 5 2 == 1 then y.schedule dCountB1 else y
      y.serialInput
    else x
  { y with cntPin := level }

/-- R537 `setFlag`. -/
def Cia.setFlag (x : Cia) (level : Bool) : Cia :=
  let y := if x.flagPin && !level then x.trigger 4 else x
  { y with flagPin := level }

/-- R112: SP is a host input unless the chip drives it (CRA[6] = 1). A level presented while the chip drives SP is lost, and when CRA[6]
returns to 0 the last driven bit stays until the host presents a level (DESIGN CHOICE, notes/assumptions/33.md). -/
def Cia.setSp (x : Cia) (level : Bool) : Cia := if bit x.cra 6 then x else { x with spPin := level }

/-! ### Time of day -/

/-- R579 `bcdInc`. -/
def bcdInc (x hiMask : Byte) : Byte :=
  let lo := (x &&& 0x0f) + 1
  if lo = 10 then ((x &&& 0xf0) + 0x10) &&& hiMask else (x &&& 0xf0) ||| (lo &&& 0x0f)

/-- R579: the hours, a 12-hour clock with PM in bit 7. -/
def hourInc (hour : Byte) : Byte :=
  let h := hour &&& 0x1f
  let pm := hour &&& 0x80
  if h = 0x11 then 0x12 ||| (pm ^^^ 0x80) else if h = 0x12 then 0x01 ||| pm else bcdInc h 0x10 ||| pm

/-- R579 `todIncrement`. -/
def TodTime.increment (t : TodTime) : TodTime :=
  if t.tenth ≠ 9 then { t with tenth := (t.tenth + 1) &&& 0x0f }
  else if t.sec ≠ 0x59 then { t with tenth := 0, sec := bcdInc t.sec 0x70 }
  else if t.min ≠ 0x59 then { t with tenth := 0, sec := 0, min := bcdInc t.min 0x70 }
  else ⟨0, 0, 0, hourInc t.hour⟩

/-- R578 `checkAlarm`. -/
def Cia.checkAlarm (x : Cia) : Cia := if x.tod.time = x.tod.alarm then x.schedule dTODInt0 else x

/-- R545: one input pulse; CRA bit 7 selects a divider of 5 (1) or 6 (0). -/
def Cia.todPulse (x : Cia) : Cia :=
  let d := x.tod.divider + 1
  if d ≥ (if bit x.cra 7 then 5 else 6) then
    let x := { x with tod := { x.tod with divider := 0 } }
    if x.tod.stopped then x
    else { x with tod := { x.tod with time := x.tod.time.increment } }.checkAlarm
  else { x with tod := { x.tod with divider := d } }

end Sys2Proof.Machine
end

