-- ==== Sys2Proof/Machine/CiaRegisters.lean ====
section
/-!
DEFINITION. The host's register accesses to the CIAs (spec/41_cia.md R510-R519, R530-R534, R544, R546, R570-R577).
-/

namespace Sys2Proof.Machine

/-- R570-R572: reads come from the latch while it is frozen. -/
def Tod.readView (t : Tod) : TodTime := if t.latched then t.latch else t.time

/-- R573. -/
def Tod.freeze (t : Tod) : Tod := if t.latched then t else { t with latch := t.time, latched := true }

/-- R574-R577: CRB bit 7 sends the write to the alarm; a write of the time may also stop or restart the clock. -/
def Cia.writeTod (x : Cia) (f : TodTime → TodTime) (stop : Option Bool) : Cia :=
  let t :=
    if bit x.crb 7 then { x.tod with alarm := f x.tod.alarm }
    else { x.tod with time := f x.tod.time, stopped := stop.getD x.tod.stopped }
  { x with tod := t }.checkAlarm

/-- R511, R515: a write to CIA2's port A is told to the host and makes the IEC lines dirty. -/
def State.portAChanged (s : State) (c : CiaId) : State :=
  match c with
  | .cia1 => s
  | .cia2 => { s with iec := { s.iec with dirtyC64 := true, ciaPins := (s.cia2.pa, s.cia2.ddra) } }

/-- R544: timer A counts phi2 from now on. -/
def countsA (d : Byte) : Bool := bit d 0 && !(bit d 5)

/-- R546: timer B counts phi2 from now on. -/
def countsB (d : Byte) : Bool := bit d 0 && field d 5 2 == 0

/-- R544: bit 4 schedules a load, bit 0 and bit 5 start or stop the counting, bit 3 is the one-shot mode; a toggling output starts high;
a change of the serial mode restarts the serial port. -/
def Cia.writeCra (x : Cia) (d : Byte) : Cia :=
  let loaded := if bit d 4 then withBit x.delay dLoadA0 true else x.delay
  let newMode := bit d 6 != bit x.cra 6
  { x with
    cra := d &&& 0xef
    delay := withBit (withBit (withBit loaded dCountA0 (countsA d)) dCountA1 (countsA d)) dOneShotA0 (bit d 3)
    feed := withBit (withBit x.feed dCountA0 (countsA d)) dOneShotA0 (bit d 3)
    pb6Out := x.pb6Out || (bit d 0 && !(bit x.cra 0) && bit d 2)
    serCounter := if newMode then 0 else x.serCounter
    sdrPending := x.sdrPending && !newMode
    serClk := x.serClk || newMode }

/-- R546. -/
def Cia.writeCrb (x : Cia) (d : Byte) : Cia :=
  let loaded := if bit d 4 then withBit x.delay dLoadB0 true else x.delay
  { x with
    crb := d &&& 0xef
    delay := withBit (withBit (withBit loaded dCountB0 (countsB d)) dCountB1 (countsB d)) dOneShotB0 (bit d 3)
    feed := withBit (withBit x.feed dCountB0 (countsB d)) dOneShotB0 (bit d 3)
    pb7Out := x.pb7Out || (bit d 0 && !(bit x.crb 0) && bit d 2) }

/-- R510. -/
def execRCiaPra (c : CiaId) (s : State) : Host.Outcome State Fault Refusal :=
  s.hostReturns (s.ciaReadPA c)

/-- R512. -/
def execRCiaPrb (c : CiaId) (s : State) : Host.Outcome State Fault Refusal :=
  s.hostReturns (ciaReadPB (s.cia c))

/-- R514. -/
def execRCiaDdra (c : CiaId) (s : State) : Host.Outcome State Fault Refusal :=
  s.hostReturns ((s.cia c).ddra)

/-- R514. -/
def execRCiaDdrb (c : CiaId) (s : State) : Host.Outcome State Fault Refusal :=
  s.hostReturns ((s.cia c).ddrb)

/-- R516. -/
def execRCiaTaLo (c : CiaId) (s : State) : Host.Outcome State Fault Refusal :=
  s.hostReturns (loByte (s.cia c).counterA)

/-- R516. -/
def execRCiaTaHi (c : CiaId) (s : State) : Host.Outcome State Fault Refusal :=
  s.hostReturns (hiByte (s.cia c).counterA)

/-- R516. -/
def execRCiaTbLo (c : CiaId) (s : State) : Host.Outcome State Fault Refusal :=
  s.hostReturns (loByte (s.cia c).counterB)

/-- R516. -/
def execRCiaTbHi (c : CiaId) (s : State) : Host.Outcome State Fault Refusal :=
  s.hostReturns (hiByte (s.cia c).counterB)

/-- R570: the read releases the latch. -/
def execRCiaTod10ths (c : CiaId) (s : State) : Host.Outcome State Fault Refusal :=
  let x := s.cia c
  (s.setCia c { x with tod := { x.tod with latched := false } }).hostReturns (x.tod.readView.tenth &&& 0x0f)

/-- R571. -/
def execRCiaTodSec (c : CiaId) (s : State) : Host.Outcome State Fault Refusal :=
  s.hostReturns ((s.cia c).tod.readView.sec &&& 0x7f)

/-- R572. -/
def execRCiaTodMin (c : CiaId) (s : State) : Host.Outcome State Fault Refusal :=
  s.hostReturns ((s.cia c).tod.readView.min &&& 0x7f)

/-- R573: the read freezes the latch. -/
def execRCiaTodHrs (c : CiaId) (s : State) : Host.Outcome State Fault Refusal :=
  let x := s.cia c
  let t := x.tod.freeze
  (s.setCia c { x with tod := t }).hostReturns (t.latch.hour &&& 0x9f)

/-- R533. -/
def execRCiaSdr (c : CiaId) (s : State) : Host.Outcome State Fault Refusal :=
  s.hostReturns ((s.cia c).sdr)

/-- R530: the causes are cleared and the line released. -/
def execRCiaIcr (c : CiaId) (s : State) : Host.Outcome State Fault Refusal :=
  ((s.setCia c (s.cia c).readIcr).ciaInterrupt c false).hostReturns ((s.cia c).icr &&& 0x9f)

/-- R519. -/
def execRCiaCra (c : CiaId) (s : State) : Host.Outcome State Fault Refusal :=
  s.hostReturns ((s.cia c).cra &&& ~~~ (0x10 : Byte))

/-- R519. -/
def execRCiaCrb (c : CiaId) (s : State) : Host.Outcome State Fault Refusal :=
  s.hostReturns ((s.cia c).crb &&& ~~~ (0x10 : Byte))

/-- R511. -/
def execWCiaPra (c : CiaId) (d : Byte) (s : State) : Host.Outcome State Fault Refusal :=
  let x := s.cia c
  .next ((s.setCia c { x with paLatch := d, pa := d ||| ~~~ x.ddra }).portAChanged c)

/-- R513. -/
def execWCiaPrb (c : CiaId) (d : Byte) (s : State) : Host.Outcome State Fault Refusal :=
  let x := s.cia c
  .next (s.setCia c { x with pbLatch := d, pb := d ||| ~~~ x.ddrb })

/-- R515. -/
def execWCiaDdra (c : CiaId) (d : Byte) (s : State) : Host.Outcome State Fault Refusal :=
  let x := s.cia c
  .next ((s.setCia c { x with ddra := d, pa := x.paLatch ||| ~~~ d }).portAChanged c)

/-- R515. -/
def execWCiaDdrb (c : CiaId) (d : Byte) (s : State) : Host.Outcome State Fault Refusal :=
  let x := s.cia c
  .next (s.setCia c { x with ddrb := d, pb := x.pbLatch ||| ~~~ d })

/-- R517. -/
def execWCiaTaLo (c : CiaId) (d : Byte) (s : State) : Host.Outcome State Fault Refusal :=
  .next (s.setCia c { s.cia c with latchA := withLo (s.cia c).latchA d })

/-- R518: a stopped timer is loaded two ticks later. -/
def execWCiaTaHi (c : CiaId) (d : Byte) (s : State) : Host.Outcome State Fault Refusal :=
  let x := { s.cia c with latchA := withHi (s.cia c).latchA d }
  .next (s.setCia c (if bit x.cra 0 then x else x.schedule dLoadA0))

/-- R517. -/
def execWCiaTbLo (c : CiaId) (d : Byte) (s : State) : Host.Outcome State Fault Refusal :=
  .next (s.setCia c { s.cia c with latchB := withLo (s.cia c).latchB d })

/-- R518. -/
def execWCiaTbHi (c : CiaId) (d : Byte) (s : State) : Host.Outcome State Fault Refusal :=
  let x := { s.cia c with latchB := withHi (s.cia c).latchB d }
  .next (s.setCia c (if bit x.crb 0 then x else x.schedule dLoadB0))

/-- R574: a write of the time restarts a stopped clock. -/
def execWCiaTod10ths (c : CiaId) (d : Byte) (s : State) : Host.Outcome State Fault Refusal :=
  .next (s.setCia c ((s.cia c).writeTod (fun t => { t with tenth := d &&& 0x0f }) (some false)))

/-- R575. -/
def execWCiaTodSec (c : CiaId) (d : Byte) (s : State) : Host.Outcome State Fault Refusal :=
  .next (s.setCia c ((s.cia c).writeTod (fun t => { t with sec := d &&& 0x7f }) none))

/-- R576. -/
def execWCiaTodMin (c : CiaId) (d : Byte) (s : State) : Host.Outcome State Fault Refusal :=
  .next (s.setCia c ((s.cia c).writeTod (fun t => { t with min := d &&& 0x7f }) none))

/-- R577: a write of the time stops the clock. -/
def execWCiaTodHrs (c : CiaId) (d : Byte) (s : State) : Host.Outcome State Fault Refusal :=
  let h := (if d &&& 0x1f = 0x12 then d ^^^ 0x80 else d) &&& 0x9f
  .next (s.setCia c ((s.cia c).writeTod (fun t => { t with hour := h }) (some true)))

/-- R534. -/
def execWCiaSdr (c : CiaId) (d : Byte) (s : State) : Host.Outcome State Fault Refusal :=
  let x := { s.cia c with sdr := d }
  .next (s.setCia c (if bit x.cra 6 then x.schedule dSerLoad0 else x))

/-- R532. -/
def execWCiaIcr (c : CiaId) (d : Byte) (s : State) : Host.Outcome State Fault Refusal :=
  .next (s.setCia c ((s.cia c).writeImr d))

/-- R544. -/
def execWCiaCra (c : CiaId) (d : Byte) (s : State) : Host.Outcome State Fault Refusal :=
  .next (s.setCia c ((s.cia c).writeCra d))

/-- R546. -/
def execWCiaCrb (c : CiaId) (d : Byte) (s : State) : Host.Outcome State Fault Refusal :=
  .next (s.setCia c ((s.cia c).writeCrb d))

end Sys2Proof.Machine
end

