-- ==== Sys2Proof/Machine/Disk.lean ====
section
/-!
DEFINITION. The VC1541's head: motor, zone, bit clock, SYNC, byte-ready, writing and the stepper (spec/47_disk.md R1100-R1141, R1160),
and what a change of a VIA's port B does (spec/46_via.md R1001).
-/

namespace Sys2Proof.Machine

/-- The half-track under the head (R1100). -/
def Disk.track (d : Disk) (h : Fin 84) : Track := d.tracks.getD h.val ⟨0, []⟩

/-- `disk.length[h]`. -/
def Disk.trackLength (d : Disk) (h : Fin 84) : Nat := (d.track h).length.toNat

/-- R1100: with no disk inserted every bit reads 0. -/
def Disk.readBit (d : Disk) (h : Fin 84) (i : Nat) : Bool := d.inserted && (d.track h).data.getD i false

/-- R1100, R1111: no disk, or a protected one, is not altered. -/
def Disk.writeBit (d : Disk) (h : Fin 84) (i : Nat) (b : Bool) : Disk :=
  if d.inserted && !d.writeProtected then
    let t := d.track h
    { d with tracks := d.tracks.set h.val { t with data := t.data.set i b } }
  else d

/-- R1104: zone = 3 - density bits. -/
def zoneOf (pbOut : Byte) : BitVec 2 := 3 - field pbOut 5 2

/-- R1104. -/
def State.motorOn (s : State) : Bool := bit (viaPbOut s.via2) 2

/-- R1121: VIA2 CB2 selects reading. -/
def State.readMode (s : State) : Bool := s.via2.cb2

/-- R1105 `cyclesPerBit`, in quarter-microseconds. -/
def cyclesPerBit (zone : BitVec 2) : BitVec 16 := if zone = 0 then 13 else if zone = 1 then 14 else if zone = 2 then 15 else 16

/-! ### Stepper -/

/-- R1130 `moveHead`: the bit offset is rescaled and rounded down to a byte boundary. Off a half-track of length 0, where the rule divides
by 0, the new offset is 0 (DESIGN CHOICE, notes/assumptions/38.md). -/
def moveHead (d : Disk) (h : Head) (target : Fin 84) : Head :=
  { h with
    bitoffset := BitVec.ofNat 16 (h.bitoffset.toNat * d.trackLength target / d.trackLength h.halftrack / 8 * 8)
    halftrack := target }

/-- R1130: where one phase up or down moves the head, within 1..84; any other transition does not move it. -/
def stepTarget (h : Head) (phase : BitVec 2) : Option (Fin 84) :=
  if phase = h.stepperPhase + 1 ∧ h.halftrack < 83 then some (h.halftrack + 1)
  else if phase = h.stepperPhase - 1 ∧ 0 < h.halftrack then some (h.halftrack - 1)
  else none

/-- R1130. -/
def stepHead (d : Disk) (h : Head) (phase : BitVec 2) : Head :=
  let moved := match stepTarget h phase with
    | some target => moveHead d h target
    | none => h
  { moved with stepperPhase := phase }

/-- R1001: what a new level of VIA2's port B does to the head at once (R1104, R1130; the LED, R1132, does nothing). -/
def headSees (d : Disk) (h : Head) (pbOut : Byte) : Head :=
  let h := if field pbOut 0 2 = h.stepperPhase then h else stepHead d h (field pbOut 0 2)
  { h with zone := zoneOf pbOut }

/-- R1160: a bit offset outside the track is clamped, with a diagnostic. -/
def State.checkOffset (s : State) : State :=
  let n := s.disk.trackLength s.head.halftrack
  let i := s.head.bitoffset.toNat
  s.recover (decide (i < n)) { s with head := { s.head with bitoffset := BitVec.ofNat 16 (if n = 0 then 0 else i % n) } }

/-- R1160: a level of VIA2's port B that moves the head has the bit offset read, and so checked, before it is rescaled
(notes/assumptions/28.md). -/
def State.checkStep (s : State) (pbOut : Byte) : State := if (stepTarget s.head (field pbOut 0 2)).isSome then s.checkOffset else s

/-- A VIA replaced, with what the change of its port B output does (R1001, R1202): VIA1's makes the IEC lines dirty, VIA2's is
applied to the head. -/
def State.updateVia (s : State) (v : ViaId) (x : Via) : State :=
  match v with
  | .via1 =>
    if viaPbOut x = viaPbOut s.via1 then { s with via1 := x }
    else { s with via1 := x, iec := { s.iec with dirtyDrive := true } }
  | .via2 =>
    if viaPbOut x = viaPbOut s.via2 then { s with via2 := x }
    else
      let s := s.checkStep (viaPbOut x)
      { s with via2 := x, head := headSees s.disk s.head (viaPbOut x) }

/-! ### Reading and writing -/

/-- R1114 `byteReady`, R1115: suppressed while VIA2 CA2 is low. -/
def State.byteReady (s : State) : State :=
  if s.via2.ca2 then
    let s :=
      if s.readMode then { s with via2 := { s.via2 with ira := s.head.readShiftreg.extractLsb' 0 8 } }
      else { s with head := { s.head with writeShiftreg := s.via2.ora } }
    { s with head := { s.head with byteReadyLine := true }, soPulses := s.soPulses + 1 }
  else s

/-- R1111: the bit under the head: read from the surface, or written to it. On a half-track of length 0 there is no cell to write: the bit
is lost, and the shift registers and byte-ready go on (DESIGN CHOICE, notes/assumptions/43.md). -/
def State.headBit (s : State) : Bool × State :=
  let h := s.head.halftrack
  let i := s.head.bitoffset.toNat
  if s.readMode then (s.disk.readBit h i, s)
  else
    let b := bit s.head.writeShiftreg 7
    (b, { s with
      disk := s.disk.writeBit h i b
      head := { s.head with writeShiftreg := s.head.writeShiftreg <<< 1 } })

/-- R1111, R1112, R1113: the bit enters the shift register, SYNC is detected, byte-ready counted. -/
def State.takeBit (s : State) (b : Bool) : State :=
  let sr := s.head.readShiftreg <<< 1 ||| (bitOf b).setWidth 16
  let sync := s.readMode && (sr &&& 0x3ff) == 0x3ff
  let count := if sync then 0 else s.head.byteReadyCounter + 1
  let s' := { s with head := { s.head with readShiftreg := sr, sync := sync, byteReadyCounter := count } }
  if !sync && count == 0 then s'.byteReady else s'

/-- R1111 `executeBitReady`; a half-track of length 0 reads 0 bits without moving (R1160). -/
def State.executeBitReady (s : State) : State :=
  let s := s.checkOffset
  let n := s.disk.trackLength s.head.halftrack
  let b := s.headBit
  let s := b.2.takeBit b.1
  { s with head := { s.head with bitoffset := BitVec.ofNat 16 (if n = 0 then 0 else (s.head.bitoffset.toNat + 1) % n) } }

/-- R1110, its first part: the byte-ready pulse ends, and the change signal's time runs. -/
def Head.changeTick (h : Head) : Head :=
  let h := { h with byteReadyLine := false }
  if 0 < h.changeTimer then
    { h with changeTimer := h.changeTimer - 1, changeSignal := if h.changeTimer = 1 then false else h.changeSignal }
  else h

/-- R1110: the bit timer at the nearest value of its range -3..16. -/
def Head.clamped (h : Head) : Head := { h with bitReadyTimer := BitVec.ofInt 16 (max (-3) (min h.bitReadyTimer.toInt 16)) }

/-- R1301 code 2. -/
def State.checkHead (s : State) : State := s.recover (decide (s.head.clamped = s.head)) { s with head := s.head.clamped }

/-- R1110 `diskAdvance`. -/
def State.diskAdvance (s : State) : State :=
  let s := s.checkHead
  let s := { s with head := s.head.changeTick }
  if s.motorOn then
    let s := { s with head := { s.head with bitReadyTimer := s.head.bitReadyTimer - 4 } }
    if s.head.bitReadyTimer.toInt ≤ 0 then
      let s := s.executeBitReady
      { s with head := { s.head with bitReadyTimer := s.head.bitReadyTimer + cyclesPerBit s.head.zone } }
    else s
  else s

end Sys2Proof.Machine
end

