-- ==== Sys2Proof/Machine/ViaTick.lean ====
section
/-!
DEFINITION. The VIA's tick: timers, input edges and pulse ends (spec/46_via.md R1020-R1023, R1040, R1041).
-/

namespace Sys2Proof.Machine

/-- R1021. -/
def Via.t1Tick (x : Via) : Via :=
  if x.t1ReloadPending then { x with t1Counter := x.t1Latch, t1ReloadPending := false }
  else
    let x := { x with t1Counter := x.t1Counter - 1 }
    if x.t1Counter = 0xffff then
      if bit x.acr 6 then
        { x.setIfr ifrT1 with t1ReloadPending := true, pb7T1Out := if bit x.acr 7 then !x.pb7T1Out else x.pb7T1Out }
      else if x.t1Armed then
        { x.setIfr ifrT1 with t1Armed := false, pb7T1Out := if bit x.acr 7 then true else x.pb7T1Out }
      else x
    else x

/-- R1022: the PB6 level timer 2 counts. -/
def pb6Level (x : Via) (pbIn : Byte) : Bool := if bit x.ddrb 6 then bit (viaPbOut x) 6 else bit pbIn 6

/-- R1022: timer 2 reaches the value that ends it. -/
def Via.t2Expires (x : Via) (at_ : BitVec 16) : Via :=
  if x.t2Counter = at_ ∧ x.t2Armed = true then { x.setIfr ifrT2 with t2Armed := false } else x

/-- R1022. -/
def Via.t2Tick (x : Via) (pbIn : Byte) : Via :=
  let pb6 := pb6Level x pbIn
  let y :=
    if !(bit x.acr 5) then { x with t2Counter := x.t2Counter - 1 }.t2Expires 0xffff
    else if x.pb6Prev && !pb6 then { x with t2Counter := x.t2Counter - 1 }.t2Expires 0
    else x
  { y with pb6Prev := pb6 }

/-- An edge of the selected direction (true: rising) between two sampled levels. -/
def activeEdge (rising old new : Bool) : Bool := if rising then !old && new else old && !new

/-- R1040: CA1. -/
def Via.sampleCa1 (x : Via) (level : Bool) (paIn : Byte) : Via :=
  let y :=
    if activeEdge (bit x.pcr 0) x.ca1 level then
      let y := x.setIfr ifrCA1
      let y := if bit x.acr 0 then { y with ira := paIn } else y
      if ca2Mode x.pcr = 4 then { y with ca2 := true } else y
    else x
  { y with ca1 := level }

/-- R1040: CB1. -/
def Via.sampleCb1 (x : Via) (level : Bool) (pbIn : Byte) : Via :=
  let y :=
    if activeEdge (bit x.pcr 4) x.cb1 level then
      let y := x.setIfr ifrCB1
      let y := if bit x.acr 1 then { y with irb := pbIn } else y
      if cb2Mode x.pcr = 4 then { y with cb2 := true } else y
    else x
  { y with cb1 := level }

/-- R1040, R1041: CA2 as an input. -/
def Via.sampleCa2 (x : Via) (level : Bool) : Via :=
  if isInputMode (ca2Mode x.pcr) then
    let y := if activeEdge (bit (ca2Mode x.pcr) 1) x.ca2 level then x.setIfr ifrCA2 else x
    { y with ca2 := level }
  else x

/-- R1040, R1041: CB2 as an input. -/
def Via.sampleCb2 (x : Via) (level : Bool) : Via :=
  if isInputMode (cb2Mode x.pcr) then
    let y := if activeEdge (bit (cb2Mode x.pcr) 1) x.cb2 level then x.setIfr ifrCB2 else x
    { y with cb2 := level }
  else x

/-- R1041 `endPulses`: a pulse-mode low of the last cycle returns high. -/
def Via.endPulses (x : Via) : Via :=
  { x with
    ca2 := x.ca2 || x.ca2Pulse
    cb2 := x.cb2 || x.cb2Pulse
    ca2Pulse := false
    cb2Pulse := false }

/-- R1020 steps 1 to 4 with the levels outside the chip. -/
def Via.tick (x : Via) (paIn pbIn : Byte) (ca1In : Bool) (other : ControlIn) : Via :=
  let x := (x.t1Tick).t2Tick pbIn
  let x := (x.sampleCa1 ca1In paIn).sampleCb1 other.cb1 pbIn
  let x := (x.sampleCa2 other.ca2).sampleCb2 other.cb2
  x.endPulses

/-- R114: IFR and IER without the bit 7 that they do not store. -/
def Via.clamped (x : Via) : Via := { x with ifr := x.ifr &&& 0x7f, ier := x.ier &&& 0x7f }

/-- A VIA is in its ranges where clamping changes nothing. -/
def Via.inRange (x : Via) : Bool := decide (x.clamped = x)

/-- R1301 code 2. -/
def State.checkVia (s : State) (v : ViaId) : State := s.recover (s.via v).inRange (s.setViaFields v (s.via v).clamped)

/-- R1020 `viaTick`. -/
def State.viaTick (s : State) (v : ViaId) : State :=
  let s := s.checkVia v
  (s.updateVia v ((s.via v).tick (s.viaPaIn v) (s.viaPbIn v) (s.viaCa1In v) (s.viaControlIn v))).updateViaIrq v

end Sys2Proof.Machine
end

