-- ==== Sys2Proof/Machine/ViaRegisters.lean ====
section
/-!
DEFINITION. The drive CPU's register accesses to the VIAs (spec/46_via.md R1004-R1019, R1024-R1044).
-/

namespace Sys2Proof.Machine

/-- An access: the chip's new fields, what a change of port B does (R1001), and the interrupt line (R1000). -/
def State.viaAccess (s : State) (v : ViaId) (x : Via) : State := (s.updateVia v x).updateViaIrq v

/-- R1004, R1005: the flags a port B access clears. -/
def Via.clearPortBFlags (x : Via) : Via :=
  let y := x.clearIfr ifrCB1
  if isIndependent (cb2Mode x.pcr) then y else y.clearIfr ifrCB2

/-- R1006, R1007: the flags a port A access clears. -/
def Via.clearPortAFlags (x : Via) : Via :=
  let y := x.clearIfr ifrCA1
  if isIndependent (ca2Mode x.pcr) then y else y.clearIfr ifrCA2

/-- R1004. -/
def Via.portBRead (x : Via) : Via := x.clearPortBFlags

/-- R1005, R1041: CB2 goes low in handshake and in pulse mode. -/
def Via.portBWrite (x : Via) : Via :=
  let y := x.clearPortBFlags
  if cb2Mode x.pcr = 4 then { y with cb2 := false }
  else if cb2Mode x.pcr = 5 then { y with cb2 := false, cb2Pulse := true }
  else y

/-- R1006, R1007, R1041: CA2 goes low in handshake and in pulse mode. -/
def Via.portAAccess (x : Via) : Via :=
  let y := x.clearPortAFlags
  if ca2Mode x.pcr = 4 then { y with ca2 := false }
  else if ca2Mode x.pcr = 5 then { y with ca2 := false, ca2Pulse := true }
  else y

/-- R1015. -/
def Via.loadT1 (x : Via) (d : Byte) : Via :=
  let l := withHi x.t1Latch d
  { x.clearIfr ifrT1 with
    t1Latch := l
    t1Counter := l
    t1ReloadPending := false
    t1Armed := true
    pb7T1Out := if bit x.acr 7 then false else x.pb7T1Out }

/-- R1035, R1041: the level an output mode gives its line; an input mode leaves the line to its wired input. -/
def outputLevel (mode : BitVec 3) (line : Bool) : Bool :=
  if isInputMode mode then line else mode != 6

/-- R1035. -/
def Via.writePcr (x : Via) (d : Byte) : Via :=
  { x with pcr := d, ca2 := outputLevel (ca2Mode d) x.ca2, cb2 := outputLevel (cb2Mode d) x.cb2 }

/-- R1004: clears the CB1 flag, and the CB2 flag unless independent. -/
def execRViaOrb (v : ViaId) (s : State) : Host.Outcome State Fault Refusal :=
  (s.viaAccess v (s.via v).portBRead).driveReturns (viaReadPB (s.via v) (s.viaPbIn v))

/-- R1006: clears the CA1 flag, and the CA2 flag unless independent; CA2 handshake. -/
def execRViaOra (v : ViaId) (s : State) : Host.Outcome State Fault Refusal :=
  (s.viaAccess v (s.via v).portAAccess).driveReturns (viaReadPA (s.via v) (s.viaPaIn v))

/-- R1008. -/
def execRViaDdrb (v : ViaId) (s : State) : Host.Outcome State Fault Refusal :=
  s.driveReturns ((s.via v).ddrb)

/-- R1010. -/
def execRViaDdra (v : ViaId) (s : State) : Host.Outcome State Fault Refusal :=
  s.driveReturns ((s.via v).ddra)

/-- R1012: clears IFR6. -/
def execRViaT1cl (v : ViaId) (s : State) : Host.Outcome State Fault Refusal :=
  (s.viaAccess v ((s.via v).clearIfr ifrT1)).driveReturns (loByte (s.via v).t1Counter)

/-- R1014. -/
def execRViaT1ch (v : ViaId) (s : State) : Host.Outcome State Fault Refusal :=
  s.driveReturns (hiByte (s.via v).t1Counter)

/-- R1016. -/
def execRViaT1ll (v : ViaId) (s : State) : Host.Outcome State Fault Refusal :=
  s.driveReturns (loByte (s.via v).t1Latch)

/-- R1018. -/
def execRViaT1lh (v : ViaId) (s : State) : Host.Outcome State Fault Refusal :=
  s.driveReturns (hiByte (s.via v).t1Latch)

/-- R1024: clears IFR5. -/
def execRViaT2cl (v : ViaId) (s : State) : Host.Outcome State Fault Refusal :=
  (s.viaAccess v ((s.via v).clearIfr ifrT2)).driveReturns (loByte (s.via v).t2Counter)

/-- R1026. -/
def execRViaT2ch (v : ViaId) (s : State) : Host.Outcome State Fault Refusal :=
  s.driveReturns (hiByte (s.via v).t2Counter)

/-- R1030: clears IFR2. -/
def execRViaSr (v : ViaId) (s : State) : Host.Outcome State Fault Refusal :=
  (s.viaAccess v ((s.via v).clearIfr ifrSR)).driveReturns ((s.via v).sr)

/-- R1032. -/
def execRViaAcr (v : ViaId) (s : State) : Host.Outcome State Fault Refusal :=
  s.driveReturns ((s.via v).acr)

/-- R1034. -/
def execRViaPcr (v : ViaId) (s : State) : Host.Outcome State Fault Refusal :=
  s.driveReturns ((s.via v).pcr)

/-- R1036. -/
def execRViaIfr (v : ViaId) (s : State) : Host.Outcome State Fault Refusal :=
  s.driveReturns (ifrRead (s.via v))

/-- R1038. -/
def execRViaIer (v : ViaId) (s : State) : Host.Outcome State Fault Refusal :=
  s.driveReturns ((s.via v).ier ||| 0x80)

/-- R1042: no flag and no line changes. -/
def execRViaOraNh (v : ViaId) (s : State) : Host.Outcome State Fault Refusal :=
  s.driveReturns (viaReadPA (s.via v) (s.viaPaIn v))

/-- R1005: clears the CB1 flag, and the CB2 flag unless independent; CB2 handshake. -/
def execWViaOrb (v : ViaId) (d : Byte) (s : State) : Host.Outcome State Fault Refusal :=
  .next (s.viaAccess v ({ s.via v with orb := d }.portBWrite))

/-- R1007: clears the CA1 flag, and the CA2 flag unless independent; CA2 handshake. -/
def execWViaOra (v : ViaId) (d : Byte) (s : State) : Host.Outcome State Fault Refusal :=
  .next (s.viaAccess v ({ s.via v with ora := d }.portAAccess))

/-- R1009. -/
def execWViaDdrb (v : ViaId) (d : Byte) (s : State) : Host.Outcome State Fault Refusal :=
  .next (s.viaAccess v ({ s.via v with ddrb := d }))

/-- R1011. -/
def execWViaDdra (v : ViaId) (d : Byte) (s : State) : Host.Outcome State Fault Refusal :=
  .next (s.viaAccess v ({ s.via v with ddra := d }))

/-- R1013: the counter is unchanged. -/
def execWViaT1cl (v : ViaId) (d : Byte) (s : State) : Host.Outcome State Fault Refusal :=
  .next (s.viaAccess v ({ s.via v with t1Latch := withLo (s.via v).t1Latch d }))

/-- R1015: loads and arms the counter, clears IFR6. -/
def execWViaT1ch (v : ViaId) (d : Byte) (s : State) : Host.Outcome State Fault Refusal :=
  .next (s.viaAccess v ((s.via v).loadT1 d))

/-- R1017. -/
def execWViaT1ll (v : ViaId) (d : Byte) (s : State) : Host.Outcome State Fault Refusal :=
  .next (s.viaAccess v ({ s.via v with t1Latch := withLo (s.via v).t1Latch d }))

/-- R1019: the counter is not loaded. -/
def execWViaT1lh (v : ViaId) (d : Byte) (s : State) : Host.Outcome State Fault Refusal :=
  .next (s.viaAccess v ({ s.via v with t1Latch := withHi (s.via v).t1Latch d }.clearIfr ifrT1))

/-- R1025. -/
def execWViaT2cl (v : ViaId) (d : Byte) (s : State) : Host.Outcome State Fault Refusal :=
  .next (s.viaAccess v ({ s.via v with t2LatchLo := d }))

/-- R1027. -/
def execWViaT2ch (v : ViaId) (d : Byte) (s : State) : Host.Outcome State Fault Refusal :=
  .next (s.viaAccess v ({ s.via v with t2Counter := d ++ (s.via v).t2LatchLo, t2Armed := true }.clearIfr ifrT2))

/-- R1031: a plain latch. -/
def execWViaSr (v : ViaId) (d : Byte) (s : State) : Host.Outcome State Fault Refusal :=
  .next (s.viaAccess v ({ s.via v with sr := d }.clearIfr ifrSR))

/-- R1033: a shifting mode raises a diagnostic, and the shift register stays inert. -/
def execWViaAcr (v : ViaId) (d : Byte) (s : State) : Host.Outcome State Fault Refusal :=
  let s' := s.viaAccess v { s.via v with acr := d }
  .next (if field d 2 3 = 0 then s' else s'.raise .viaShiftModeUnsupported)

/-- R1035. -/
def execWViaPcr (v : ViaId) (d : Byte) (s : State) : Host.Outcome State Fault Refusal :=
  .next (s.viaAccess v ((s.via v).writePcr d))

/-- R1037. -/
def execWViaIfr (v : ViaId) (d : Byte) (s : State) : Host.Outcome State Fault Refusal :=
  .next (s.viaAccess v ((s.via v).writeIfr d))

/-- R1039. -/
def execWViaIer (v : ViaId) (d : Byte) (s : State) : Host.Outcome State Fault Refusal :=
  .next (s.viaAccess v ((s.via v).writeIer d))

/-- R1043: no flag and no line changes. -/
def execWViaOraNh (v : ViaId) (d : Byte) (s : State) : Host.Outcome State Fault Refusal :=
  .next (s.viaAccess v ({ s.via v with ora := d }))

end Sys2Proof.Machine
end

