-- ==== Sys2Proof/Machine/VicPixels.lean ====
section
/-!
DEFINITION. The VIC's pixel pipeline: graphics sequencer, sprite shift registers, border compares, collisions and the frame buffers
(spec/45_vic_pixels.md R900-R940, spec/44_vic_sprites.md R850-R852, spec/43_vic_raster.md R770-R774). `r` is the register set the
pixel rules see: `reg.delayed` (R110, R900).
-/

namespace Sys2Proof.Machine

/-! ### Graphics sequencer -/

/-- R901: the pending g-access result is loaded at pixel XSCROLL. -/
def GfxShift.load (g : GfxShift) (r : VicRegs) (word : BitVec 32) (p : Nat) : GfxShift :=
  if g.canLoad && p == r.xscroll.toNat then
    { g with
      data := field word 0 8
      latchedCharacter := field word 8 8
      latchedColor := field word 16 4
      remainingBits := 8
      mcFlop := true
      canLoad := false }
  else g

/-- R902: this pixel is a multicolour pixel. -/
def GfxShift.mcPixel (g : GfxShift) (r : VicRegs) : Bool := r.mcm && (r.bmm || bit g.latchedColor 3)

/-- R902. -/
def GfxShift.shift (g : GfxShift) (r : VicRegs) : GfxShift :=
  let g :=
    if g.mcPixel r then
      { g with colorbits := if g.mcFlop then field g.data 6 2 else g.colorbits, mcFlop := !g.mcFlop }
    else { g with colorbits := (0 : BitVec 1) ++ field g.data 7 1 }
  { g with data := g.data <<< 1, remainingBits := g.remainingBits - 1 }

/-- R903: foreground by the pixel's bits, without the vertical flip-flop. -/
def GfxShift.foreground (g : GfxShift) (r : VicRegs) : Bool :=
  if g.mcPixel r then bit g.colorbits 1 else bit g.colorbits 0

/-- R912: the mode table. -/
def GfxShift.modeColour (g : GfxShift) (r : VicRegs) : Nibble :=
  let ch := g.latchedCharacter
  let col := g.latchedColor
  let cb := g.colorbits
  match r.ecm, r.bmm, r.mcm with
  | false, false, false => if cb = 0 then r.b0c else col
  | false, false, true =>
    if bit col 3 then
      (if cb = 0 then r.b0c else if cb = 1 then r.b1c else if cb = 2 then r.b2c else col &&& 7)
    else (if cb = 0 then r.b0c else col &&& 7)
  | false, true, false => if cb = 0 then field ch 0 4 else field ch 4 4
  | false, true, true => if cb = 0 then r.b0c else if cb = 1 then field ch 4 4 else if cb = 2 then field ch 0 4 else col
  | true, false, false => if cb = 0 then r.background (field ch 6 2) else col
  | true, _, _ => 0

/-! ### Sprite shift registers -/

/-- R850: the X match loads the three chunks and starts the shifting, at most once a line. -/
def Sprite.matchX (s : Sprite) (r : VicRegs) (n : Nat) (x : BitVec 16) : Sprite :=
  if s.display && !s.ssr.active && !s.ssr.matched && x == (r.mxX.get n).setWidth 16 then
    { s with ssr := { s.ssr with
        data := (s.ssr.chunk1 ++ s.ssr.chunk2) ++ s.ssr.chunk3
        remainingBits := 24
        active := true
        expFlop := true
        mcFlop := true
        matched := true } }
  else s

/-- R851: a pixel that takes a new bit. -/
def SpriteShift.takeBit (t : SpriteShift) (mc : Bool) : SpriteShift :=
  let t :=
    if mc then { t with colBits := if t.mcFlop then field t.data 22 2 else t.colBits, mcFlop := !t.mcFlop }
    else { t with colBits := field t.data 23 1 ++ (0 : BitVec 1) }
  { t with data := t.data <<< 1, remainingBits := t.remainingBits - 1 }

/-- R851: one pixel of an active sprite, and what it shows; an inactive one shows 00. -/
def Sprite.shift (s : Sprite) (r : VicRegs) (n : Nat) : Sprite × BitVec 2 :=
  if s.ssr.active then
    let t := if s.ssr.expFlop then s.ssr.takeBit (bit r.mxmc n) else s.ssr
    let t := if bit r.mxxe n then { t with expFlop := !t.expFlop } else t
    ({ s with ssr := if t.remainingBits == 0 && t.expFlop then { t with active := false } else t }, t.colBits)
  else (s, 0)

/-- R900 step 2: match, then shift. -/
def Sprite.step (s : Sprite) (r : VicRegs) (x : BitVec 16) (n : Nat) : Sprite × BitVec 2 := (s.matchX r n x).shift r n

/-! ### Border flip-flops -/

/-- R773: the comparison values. -/
def leftComparisonValue (r : VicRegs) : BitVec 16 := if r.csel then 24 else 31
def rightComparisonValue (r : VicRegs) : BitVec 16 := if r.csel then 344 else 335
def upperComparisonValue (r : VicRegs) : BitVec 32 := if r.rsel then 51 else 55
def lowerComparisonValue (r : VicRegs) : BitVec 32 := if r.rsel then 251 else 247

/-- R770, R771: the compares of one pixel. -/
def BorderFF.compare (f : BorderFF) (r : VicRegs) (x : BitVec 16) : BorderFF :=
  let f := if x == leftComparisonValue r && !f.vertical then { f with main := false } else f
  if x == rightComparisonValue r then { f with main := true } else f

/-- R774: a compare of R770 or R771 fires at this pixel. -/
def borderFires (r : VicRegs) (x : BitVec 16) : Bool := x == leftComparisonValue r || x == rightComparisonValue r

/-! ### Priority and collisions -/

/-- R915. -/
def spriteColour (r : VicRegs) (n : Nat) (px : BitVec 2) : Nibble :=
  if px = 1 then r.mm0 else if px = 2 then r.mxc.get n else r.mm1

/-- R920: the lowest sprite with a non-transparent pixel. -/
def frontSprite (px : Eight (BitVec 2)) : Option Nat := (List.range 8).find? (fun n => px.get n != 0)

/-- R930: the set S, one bit per sprite. -/
def spriteSet (px : Eight (BitVec 2)) : Byte := (px.mapIdx (fun _ q => q != 0)).toByte

/-- Two or more sprites: clearing the lowest set bit leaves one. -/
def atLeastTwo (b : Byte) : Bool := (b &&& (b - 1)) != 0

/-- R920 `priorityMux`: the pixel's colour, and what won. -/
def priorityMux (r : VicRegs) (px : Eight (BitVec 2)) (gColour : Nibble) (fg : Bool) : Nibble × Layer :=
  match frontSprite px with
  | none => (gColour, if fg then .foreground else .background)
  | some n => if bit r.mxdp n && fg then (gColour, .foreground) else (spriteColour r n (px.get n), .sprite n)

/-- R930 `collide`, on the collision registers and `irr`. -/
def Vic.collide (v : Vic) (px : Eight (BitVec 2)) (fg : Bool) : Vic :=
  let S := spriteSet px
  let v :=
    if atLeastTwo S then
      { v with
        irr := if v.spriteSpriteCollision = 0 then v.irr ||| 0x04 else v.irr
        spriteSpriteCollision := v.spriteSpriteCollision ||| S }
    else v
  if S != 0 && fg then
    { v with
      irr := if v.spriteBackgroundCollision = 0 then v.irr ||| 0x02 else v.irr
      spriteBackgroundCollision := v.spriteBackgroundCollision ||| S }
  else v

/-! ### Frame buffers -/

/-- R940: the cell of row y and column X. -/
def pixelCell (y : BitVec 32) (x : BitVec 16) : Nat := y.toNat * 384 + x.toNat

/-- R940: the pixel goes to the working buffer. A row has the columns 0..383: a drawn pixel beyond them, which only an NTSC table can
give, is not stored (DESIGN CHOICE, notes/assumptions/37.md). -/
def Vic.putPixel (v : Vic) (x : BitVec 16) (colour : Nibble) : Vic :=
  if x.toNat < 384 then
    match v.workingBuffer with
    | .one => { v with screenBuffer1 := v.screenBuffer1.write (pixelCell v.yCounter x) (colour.setWidth 8) }
    | .two => { v with screenBuffer2 := v.screenBuffer2.write (pixelCell v.yCounter x) (colour.setWidth 8) }
  else v

/-- R900 step 4: the produced pixel, with `borderNow` of R774 and the border overwrite of R925. `zBuffer` and `pixelSource` (R920) are
recorded for every produced pixel, under the border too (DEDUCED, notes/assumptions/36.md). -/
def Vic.produce (v : Vic) (r : VicRegs) (p : Nat) (x : BitVec 16) (px : Eight (BitVec 2)) (gColour : Nibble) (fg borderNow : Bool) : Vic :=
  let v := v.collide px fg
  let m := priorityMux r px gColour fg
  let v := { v with
    zBuffer := v.zBuffer.set p m.2
    pixelSource := v.pixelSource.set p (bitOf fg ++ spriteSet px) }
  v.putPixel x (if borderNow then r.ec else m.1)

/-- R900 `pixelStep`: pixel p of the cycle. The flag says that a border compare fired earlier in this cycle (R774). X(c, p) is
the entry's X(c, 0) plus p, without a wrap: R705's formula wraps between two cycles only, and for an NTSC table there is no formula
(DESIGN CHOICE, notes/assumptions/42.md). -/
def Vic.pixelStep (r : VicRegs) (row : CycleRow) (word : BitVec 32) (p : Nat) (a : Vic × Bool) : Vic × Bool :=
  let v := a.1
  let x := row.x0 + BitVec.ofNat 16 p
  let g := (v.sr.load r word p).shift r
  let fg := !v.ffDelayed.vertical && g.foreground r
  let gColour := if v.ffDelayed.vertical then r.b0c else g.modeColour r
  let sp := v.sprites.mapIdx (fun n s => s.step r x n)
  let px := sp.mapIdx (fun _ q => q.2)
  let ff := v.ff.compare r x
  let fired := a.2 || borderFires r x
  let v := { v with sr := g, sprites := sp.mapIdx (fun _ q => q.1), ff := ff }
  (if row.draw then v.produce r p x px gColour fg (if fired then ff.main else v.ffDelayed.main) else v, fired)

/-- R900 `pixelCycle`: the load flag of R901, then the 8 pixels in order. -/
def Vic.pixelCycle (v : Vic) (row : CycleRow) (gBefore : Bool) : Vic :=
  let r := v.regDelayed
  let word := v.gAccess.v1
  let v := { v with sr := { v.sr with canLoad := v.sr.canLoad || gBefore } }
  let a := Vic.pixelStep r row word 0 (v, false)
  let a := Vic.pixelStep r row word 1 a
  let a := Vic.pixelStep r row word 2 a
  let a := Vic.pixelStep r row word 3 a
  let a := Vic.pixelStep r row word 4 a
  let a := Vic.pixelStep r row word 5 a
  let a := Vic.pixelStep r row word 6 a
  (Vic.pixelStep r row word 7 a).1

/-- R107: the row being written, as a view of the working buffer. -/
def Vic.pixelBuffer (v : Vic) : List Byte :=
  let m := match v.workingBuffer with
    | .one => v.screenBuffer1
    | .two => v.screenBuffer2
  (List.range 384).map (fun x => m.read (v.yCounter.toNat * 384 + x))

/-- R940 `readFrame`: the buffer that is not being written. -/
def State.readFrame (s : State) : Memory :=
  match s.vic.workingBuffer with
  | .one => s.vic.screenBuffer2
  | .two => s.vic.screenBuffer1

end Sys2Proof.Machine
end

