-- ==== Sys2Proof/Machine/VicRaster.lean ====
section
/-!
DEFINITION. The VIC's raster sequencer: bad lines, video counters, BA, raster compare, vertical border, and the sprite DMA sequencer
(spec/43_vic_raster.md R700-R775, spec/44_vic_sprites.md R810-R830), in the order of R700.
-/

namespace Sys2Proof.Machine

/-! ### Steps 1 and 2 -/

/-- R703. -/
def Vic.lineZeroResets (v : Vic) : Vic :=
  { v with vcBase := 0, denWasSet := false, refreshCounter := 0xff, lpTriggeredThisFrame := false }

/-- R723. -/
def Vic.denLatch (v : Vic) : Vic := if v.yCounter == 0x30 && v.reg.den then { v with denWasSet := true } else v

/-- R722. -/
def Vic.badLineCondition (v : Vic) : Bool :=
  v.yCounter ≥ 0x30 && v.yCounter ≤ 0xf7 && field v.yCounter 0 3 == v.reg.yscroll && v.denWasSet

/-- R722, R725. -/
def Vic.badLineStep (v : Vic) : Vic :=
  let b := v.badLineCondition
  { v with badLine := b, displayState := v.displayState || b }

/-! ### Step 3: raster interrupt -/

/-- R760. -/
def State.rasterCompare (s : State) : State :=
  let m := s.vic.yCounter == s.vic.rasterIrqLine.setWidth 32
  let s' := { s with vic := { s.vic with
    irr := if m then s.vic.irr ||| 0x01 else s.vic.irr
    rasterMatchLatched := m } }
  if m then s'.updateVicIrq else s'

/-- R760, R761: the compare of this line has been made: it is in cycle 1, in line 0 in cycle 2. -/
def Vic.compareCyclePassed (v : Vic) : Bool := v.yCounter != 0 || v.rasterCycle ≥ 2

/-- R761. -/
def State.rasterCompareOnWrite (s : State) : State :=
  if s.vic.compareCyclePassed then
    let m := s.vic.yCounter == s.vic.rasterIrqLine.setWidth 32
    let fires := m && !s.vic.rasterMatchLatched
    let s' := { s with vic := { s.vic with
      irr := if fires then s.vic.irr ||| 0x01 else s.vic.irr
      rasterMatchLatched := m } }
    if fires then s'.updateVicIrq else s'
  else s

/-! ### Step 4: video counters -/

/-- R740. -/
def Vic.cycle14 (v : Vic) : Vic := { v with vc := v.vcBase, vmli := 0, rc := if v.badLine then 0 else v.rc }

/-- R741. -/
def Vic.cycle58 (v : Vic) : Vic :=
  let v :=
    if v.rc = 7 then { v with vcBase := v.vc, displayState := if v.badLine then v.displayState else false } else v
  if v.displayState then { v with rc := v.rc + 1 } else v

/-! ### Step 5: sprite sequencer -/

/-- R810: DMA start. -/
def Sprite.dmaStart (s : Sprite) (r : VicRegs) (y : BitVec 32) (n : Nat) : Sprite :=
  if bit r.mxe n && r.mxY.get n == field y 0 8 && !s.dma then
    { s with dma := true, mcbase := 0, expansionFF := if bit r.mxye n then false else s.expansionFF }
  else s

/-- R811: Y-expansion toggle. -/
def Sprite.expToggle (s : Sprite) (r : VicRegs) (n : Nat) : Sprite :=
  if bit r.mxye n then { s with expansionFF := !s.expansionFF } else s

/-- R812: MC from MCBASE, and the display decision. -/
def Sprite.displayDecision (s : Sprite) (r : VicRegs) (y : BitVec 32) (n : Nat) : Sprite :=
  { s with
    mc := s.mcbase
    display := if s.dma then s.display || r.mxY.get n == field y 0 8 else false }

/-- R821: first MCBASE step. -/
def Sprite.mcbase1 (s : Sprite) : Sprite := if s.expansionFF then { s with mcbase := s.mcbase + 2 } else s

/-- R822: second MCBASE step, and the end of DMA. -/
def Sprite.mcbase2 (s : Sprite) : Sprite :=
  let s := if s.expansionFF then { s with mcbase := s.mcbase + 1 } else s
  if s.mcbase = 63 then { s with dma := false } else s

/-- R850: at cycle 1 a sprite still shifting is cut, and the line's match is still to come. -/
def Sprite.cut (s : Sprite) : Sprite := { s with ssr := { s.ssr with active := false, matched := false } }

/-- R700 step 5: the sprite sequencer actions of the cycle. -/
def Vic.spriteActions (v : Vic) (row : CycleRow) : Vic :=
  let r := v.reg
  let y := v.yCounter
  let v := if v.rasterCycle = 1 then { v with sprites := v.sprites.mapIdx (fun _ s => s.cut) } else v
  let v :=
    if row.mcbase1 then
      { v with clearedBitsInD017 := ~~~ r.mxye, sprites := v.sprites.mapIdx (fun _ s => s.mcbase1) }
    else v
  let v := if row.mcbase2 then { v with sprites := v.sprites.mapIdx (fun _ s => s.mcbase2) } else v
  let v := if row.expToggle then { v with sprites := v.sprites.mapIdx (fun n s => s.expToggle r n) } else v
  let v := if row.dmaStart then { v with sprites := v.sprites.mapIdx (fun n s => s.dmaStart r y n) } else v
  if row.rowEnd then { v with sprites := v.sprites.mapIdx (fun n s => s.displayDecision r y n) } else v

/-! ### Step 6: BA -/

/-- `spriteDmaOnOff`, one bit per sprite. -/
def Vic.dmaBits (v : Vic) : Byte := (v.sprites.mapIdx (fun _ s => s.dma)).toByte

/-- R730: bit 8 for a bad line, bits 0..7 for the sprites. -/
def Vic.baWord (v : Vic) (row : CycleRow) : BitVec 16 :=
  (v.dmaBits &&& row.baSprites).setWidth 16 ||| (if v.badLine && row.baBadLine then 0x100 else 0)

def BaLine.write (b : BaLine) (w : BitVec 16) : BaLine := { b with v0 := w }

/-- R108: the ring shifts by one; the current value is carried forward. -/
def BaLine.advance (b : BaLine) : BaLine := ⟨b.v0, b.v0, b.v1, b.v2⟩

def GAccess.advance (g : GAccess) : GAccess := ⟨g.v0, g.v0, g.v1⟩

/-- R108: BA was low in each of the three cycles before this one. -/
def BaLine.lowFor3 (b : BaLine) : Bool := b.v1 != 0 && b.v2 != 0 && b.v3 != 0

/-- R410: BA is low in this cycle. -/
def Vic.baLow (v : Vic) : Bool := v.baLine.v0 != 0

/-- R701: the access the cycle table schedules in phi1, as a VA word (R304); an s2 slot of a sprite whose DMA is off is an i-access. -/
def Vic.phi1Word (v : Vic) (row : CycleRow) : Byte :=
  match row.phi1 with
  | .r => 0x0
  | .i => 0x1
  | .g => 0x3
  | .p _ => 0x4
  | .s2 n => if (v.sprites.get n).dma then 0x6 else 0x1

/-- R701: the access scheduled in phi2, if there is one. -/
def Vic.phi2Word (v : Vic) (row : CycleRow) : Option Byte :=
  match row.phi2 with
  | .cpu => none
  | .c => if v.badLine then some 0xa else none
  | .s1 n => if (v.sprites.get n).dma then some 0xd else none
  | .s3 n => if (v.sprites.get n).dma then some 0xf else none

/-- R411 `vicOwnsPhi2`: a phi2 access is scheduled and BA was low for three cycles. -/
def Vic.takesPhi2 (v : Vic) (row : CycleRow) : Bool := (v.phi2Word row).isSome && v.baLine.lowFor3

/-- R700 step 6. -/
def Vic.baStep (v : Vic) (row : CycleRow) : Vic :=
  let v := { v with baLine := v.baLine.write (v.baWord row) }
  { v with aec := v.takesPhi2 row }

/-! ### Steps 10 and 11 -/

/-- R772: the vertical compare. -/
def Vic.verticalCompare (v : Vic) : Vic :=
  let f := if v.yCounter == lowerComparisonValue v.reg then { v.ff with vertical := true } else v.ff
  { v with ff := if v.yCounter == upperComparisonValue v.reg && v.reg.den then { f with vertical := false } else f }

/-- R700 step 11, with R110: `reg.delayed` takes what `reg.current` was in this cycle. -/
def Vic.endOfCycle (v : Vic) : Vic :=
  { v with ffDelayed := v.ff, baLine := v.baLine.advance, gAccess := v.gAccess.advance, regDelayed := v.reg }

/-! ### Ranges -/

/-- R105: at most 24 bits are left to shift, and the pointer is a byte shifted left by 6. -/
def Sprite.clamped (p : Sprite) : Sprite :=
  { p with ptr := p.ptr &&& 0x3fc0, ssr := { p.ssr with remainingBits := clamp 0 24 p.ssr.remainingBits } }

/-- R106: the BA word has bits 0 to 8. -/
def BaLine.clamped (b : BaLine) : BaLine := ⟨b.v0 &&& 0x1ff, b.v1 &&& 0x1ff, b.v2 &&& 0x1ff, b.v3 &&& 0x1ff⟩

/-- R103: a g-access result has bits 0 to 19. -/
def GAccess.clamped (g : GAccess) : GAccess := ⟨g.v0 &&& 0xfffff, g.v1 &&& 0xfffff, g.v2 &&& 0xfffff⟩

/-- The nearest state in the ranges of R101-R106: the line is one of the frame's, `vmli` at most 40, at most 8 graphics bits are left, and
the bits that a register or a ring lacks are 0. -/
def Vic.clamped (v : Vic) (cfg : Config) : Vic :=
  { v with
    reg := v.reg.clamped
    regDelayed := v.regDelayed.clamped
    irr := v.irr &&& 0x0f
    imr := v.imr &&& 0x0f
    yCounter := BitVec.ofNat 32 (clamp 0 (linesPerFrame cfg - 1) v.yCounter.toNat)
    vmli := BitVec.ofNat 6 (clamp 0 40 v.vmli.toNat)
    gAccess := v.gAccess.clamped
    sr := { v.sr with remainingBits := clamp 0 8 v.sr.remainingBits }
    sprites := v.sprites.mapIdx fun _ p => p.clamped
    baLine := v.baLine.clamped }

/-- The VIC is in its ranges where clamping changes nothing. -/
def Vic.inRange (v : Vic) (cfg : Config) : Bool := decide (v.clamped cfg = v)

/-- R1301 code 2. -/
def State.checkVic (s : State) : State := s.recover (s.vic.inRange s.cfg) { s with vic := s.vic.clamped s.cfg }

/-! ### The step around the two accesses -/

/-- R700 steps 1 to 7, after the check of the ranges. From here until the next cycle `xCounter` holds X(c, 0) of this cycle c, also when
a host operation reads it between two cycles (DEDUCED, notes/assumptions/35.md), and `vblank` the value of this cycle's line, also when
`yCounter` already names the next one (DEDUCED, notes/assumptions/41.md). -/
def State.vicBeforeAccess (s : State) (row : CycleRow) : State :=
  let s := s.checkVic
  let c := s.vic.rasterCycle
  let y := s.vic.yCounter
  let v := { s.vic with xCounter := row.x0, vblank := inVblank s.cfg y.toNat }
  let v := if c = 1 ∧ y = 0 then v.lineZeroResets else v
  let v := v.denLatch.badLineStep
  let s := { s with vic := v }
  let s := if (c = 1 ∧ y ≠ 0) ∨ (c = 2 ∧ y = 0) then s.rasterCompare else s
  let v := if row.vcLoad then s.vic.cycle14 else s.vic
  let v := if row.rowEnd then v.cycle58 else v
  let v := ((v.spriteActions row).baStep row).pixelCycle row s.gBefore
  { s with vic := v }.updateVicIrq

/-- R700 steps 10 and 11. -/
def State.vicAfterAccess (s : State) : State :=
  let v := if s.vic.rasterCycle = cyclesPerLine s.cfg then s.vic.verticalCompare else s.vic
  { s with vic := v.endOfCycle }

end Sys2Proof.Machine
end

