-- ==== Sys2Proof/Machine/VicAccess.lean ====
section
/-!
DEFINITION. The VIC-II's own memory accesses (format VA; spec/43_vic_raster.md R731-R734, R742, spec/44_vic_sprites.md R840-R843).
The word carries no sprite: the access belongs to the sprite that the cycle's table entry names for its half (R701).
-/

namespace Sys2Proof.Machine

/-- The sprite of the cycle's phi1 access, p or s2 (R701). -/
def State.phi1Sprite (s : State) : Option (Fin 8) :=
  match s.row?.map CycleRow.phi1 with
  | some (.p n) => some n
  | some (.s2 n) => some n
  | _ => none

/-- The sprite of the cycle's phi2 access, s1 or s3 (R701). -/
def State.phi2Sprite (s : State) : Option (Fin 8) :=
  match s.row?.map CycleRow.phi2 with
  | some (.s1 n) => some n
  | some (.s3 n) => some n
  | _ => none

/-- A VIC access that needs a sprite, for the sprite of its half of the cycle (notes/assumptions/19.md). -/
def inSlot (slot : Option (Fin 8)) (f : Fin 8 → State) : Host.Outcome State Fault Refusal :=
  match slot with
  | some n => .next (f n)
  | none => .refused .noSpriteSlot

def Vic.setSprite (v : Vic) (n : Nat) (x : Sprite) : Vic := { v with sprites := v.sprites.set n x }

def State.mapSprite (s : State) (n : Nat) (f : Sprite → Sprite) : State :=
  { s with vic := s.vic.setSprite n (f (s.vic.sprites.get n)) }

/-- Entry i of a line buffer of 40 with x in it; an index above 39 has no entry (R103). -/
def setEntry {α : Type} (l : List α) (i : BitVec 6) (x : α) : List α := l.set i.toNat x

/-- R742: the byte of a phi2 access: what the VIC reads if it has the bus, otherwise a draw. -/
def State.phi2Byte (s : State) (a : BitVec 14) : Byte × State :=
  if s.vic.baLine.lowFor3 then (s.vicByte a, s.vicBus a) else s.drawByte

/-- R733: DRAM refresh; the value read is discarded. -/
def execVaR (s : State) : Host.Outcome State Fault Refusal :=
  let s := s.vicBus (refreshAddress s.vic.refreshCounter)
  .next { s with vic := { s.vic with refreshCounter := s.vic.refreshCounter - 1 } }

/-- R734: idle access; the value read is discarded. -/
def execVaI (s : State) : Host.Outcome State Fault Refusal := .next (s.vicBus idleAddress)

/-- R732, in display state. -/
def State.gDisplay (s : State) : State :=
  let v := s.vic
  let ch := v.videoMatrix.getD v.vmli.toNat 0
  let col := v.colorLine.getD v.vmli.toNat 0
  let a := gAddress v.reg ch v.vc v.rc
  let word : BitVec 32 := ((0 : BitVec 12) ++ col ++ ch) ++ s.vicByte a
  { s.vicBus a with vic := { v with gAccess := { v.gAccess with v0 := word }, vc := v.vc + 1, vmli := v.vmli + 1 } }

/-- R732, in idle state: the character and colour fields are 0, and the counters stay. -/
def State.gIdle (s : State) : State :=
  let v := s.vic
  let a := gIdleAddress v.reg
  { s.vicBus a with vic := { v with gAccess := { v.gAccess with v0 := (s.vicByte a).setWidth 32 } } }

/-- R732: graphics access; in the illegal modes a 65xx chip's address is unknown, and the run is refused (R306, R1302). -/
def execVaG (s : State) : Host.Outcome State Fault Refusal :=
  if !s.cfg.vic85xx && s.vic.reg.illegalMode then .refused .vic65xxGlitch
  else if s.vic.displayState then .next s.gDisplay
  else .next s.gIdle

/-- R731: video matrix and colour access. -/
def execVaC (s : State) : Host.Outcome State Fault Refusal :=
  let a := cAddress s.vic.reg s.vic.vc
  let b := s.phi2Byte a
  let n := if s.vic.baLine.lowFor3 then (b.2.colorNibble s.vic.vc, b.2) else b.2.drawNibble
  .next { n.2 with vic := { n.2.vic with
    videoMatrix := setEntry n.2.vic.videoMatrix n.2.vic.vmli b.1
    colorLine := setEntry n.2.vic.colorLine n.2.vic.vmli n.1 } }

/-- R840: sprite pointer, whether or not the sprite's DMA is on. -/
def execVaP (s : State) : Host.Outcome State Fault Refusal :=
  inSlot s.phi1Sprite fun n =>
    let a := pAddress s.vic.reg n
    (s.vicBus a).mapSprite n fun p => { p with ptr := (s.vicByte a).setWidth 16 <<< 6 }

/-- R841: first sprite byte. -/
def execVaS1 (s : State) : Host.Outcome State Fault Refusal :=
  inSlot s.phi2Sprite fun n =>
    let p := s.vic.sprites.get n
    let b := s.phi2Byte (sAddress p.ptr p.mc)
    b.2.mapSprite n fun p => { p with ssr := { p.ssr with chunk1 := b.1 }, mc := p.mc + 1 }

/-- R842: second sprite byte, in phi1. -/
def execVaS2 (s : State) : Host.Outcome State Fault Refusal :=
  inSlot s.phi1Sprite fun n =>
    let p := s.vic.sprites.get n
    let a := sAddress p.ptr p.mc
    (s.vicBus a).mapSprite n fun p => { p with ssr := { p.ssr with chunk2 := s.vicByte a }, mc := p.mc + 1 }

/-- R843: third sprite byte. -/
def execVaS3 (s : State) : Host.Outcome State Fault Refusal :=
  inSlot s.phi2Sprite fun n =>
    let p := s.vic.sprites.get n
    let b := s.phi2Byte (sAddress p.ptr p.mc)
    b.2.mapSprite n fun p => { p with ssr := { p.ssr with chunk3 := b.1 }, mc := p.mc + 1 }

end Sys2Proof.Machine
end

