-- ==== Sys2Proof/Machine/VicRegisters.lean ====
section
/-!
DEFINITION. The host's register accesses to the VIC-II (spec/42_vic_registers.md R601-R651). A read ends with its byte on the host
data bus. A write is seen by the engine from the next phi1 on (R600), except where its rule acts at once.
-/

namespace Sys2Proof.Machine

/-- R601: sprite n X, low byte. -/
def execRVicMnX (n : Nat) (s : State) : Host.Outcome State Fault Refusal :=
  s.hostReturns (((s.vic.reg.mxX.get n).extractLsb' 0 8))

/-- R603. -/
def execRVicMnY (n : Nat) (s : State) : Host.Outcome State Fault Refusal :=
  s.hostReturns (s.vic.reg.mxY.get n)

/-- R605: bit 8 of every sprite's X. -/
def execRVicMsbx (s : State) : Host.Outcome State Fault Refusal :=
  s.hostReturns ((s.vic.reg.mxX.mapIdx (fun _ x => bit x 8)).toByte)

/-- R607: bit 7 is the current line's bit 8. -/
def execRVicCr1 (s : State) : Host.Outcome State Fault Refusal :=
  s.hostReturns (bitOf (bit s.vic.yCounter 8) ++ field s.vic.reg.cr1 0 7)

/-- R609. -/
def execRVicRaster (s : State) : Host.Outcome State Fault Refusal :=
  s.hostReturns (field s.vic.yCounter 0 8)

/-- R611. -/
def execRVicLpx (s : State) : Host.Outcome State Fault Refusal :=
  s.hostReturns (s.vic.lpx)

/-- R613. -/
def execRVicLpy (s : State) : Host.Outcome State Fault Refusal :=
  s.hostReturns (s.vic.lpy)

/-- R615. -/
def execRVicMxe (s : State) : Host.Outcome State Fault Refusal :=
  s.hostReturns (s.vic.reg.mxe)

/-- R617. -/
def execRVicCr2 (s : State) : Host.Outcome State Fault Refusal :=
  s.hostReturns (s.vic.reg.cr2 ||| 0xc0)

/-- R619. -/
def execRVicMxye (s : State) : Host.Outcome State Fault Refusal :=
  s.hostReturns (s.vic.reg.mxye)

/-- R621. -/
def execRVicMemptr (s : State) : Host.Outcome State Fault Refusal :=
  s.hostReturns (s.vic.reg.memptr ||| 0x01)

/-- R623. -/
def execRVicIrr (s : State) : Host.Outcome State Fault Refusal :=
  s.hostReturns (irrRead s.vic.irr s.vic.imr)

/-- R625. -/
def execRVicImr (s : State) : Host.Outcome State Fault Refusal :=
  s.hostReturns (s.vic.imr ||| 0xf0)

/-- R627. -/
def execRVicMxdp (s : State) : Host.Outcome State Fault Refusal :=
  s.hostReturns (s.vic.reg.mxdp)

/-- R629. -/
def execRVicMxmc (s : State) : Host.Outcome State Fault Refusal :=
  s.hostReturns (s.vic.reg.mxmc)

/-- R633. -/
def execRVicMxxe (s : State) : Host.Outcome State Fault Refusal :=
  s.hostReturns (s.vic.reg.mxxe)

/-- R630: the read clears the register; `irr` is unchanged. -/
def execRVicMm (s : State) : Host.Outcome State Fault Refusal :=
  { s with vic := { s.vic with spriteSpriteCollision := 0 } }.hostReturns s.vic.spriteSpriteCollision

/-- R631: the read clears the register. -/
def execRVicMd (s : State) : Host.Outcome State Fault Refusal :=
  { s with vic := { s.vic with spriteBackgroundCollision := 0 } }.hostReturns s.vic.spriteBackgroundCollision

/-- R640. -/
def execRVicEc (s : State) : Host.Outcome State Fault Refusal :=
  s.hostReturns ((0xf : Nibble) ++ s.vic.reg.ec)

/-- R642. -/
def execRVicB0c (s : State) : Host.Outcome State Fault Refusal :=
  s.hostReturns ((0xf : Nibble) ++ s.vic.reg.b0c)

/-- R642. -/
def execRVicB1c (s : State) : Host.Outcome State Fault Refusal :=
  s.hostReturns ((0xf : Nibble) ++ s.vic.reg.b1c)

/-- R642. -/
def execRVicB2c (s : State) : Host.Outcome State Fault Refusal :=
  s.hostReturns ((0xf : Nibble) ++ s.vic.reg.b2c)

/-- R642. -/
def execRVicB3c (s : State) : Host.Outcome State Fault Refusal :=
  s.hostReturns ((0xf : Nibble) ++ s.vic.reg.b3c)

/-- R644. -/
def execRVicMm0 (s : State) : Host.Outcome State Fault Refusal :=
  s.hostReturns ((0xf : Nibble) ++ s.vic.reg.mm0)

/-- R644. -/
def execRVicMm1 (s : State) : Host.Outcome State Fault Refusal :=
  s.hostReturns ((0xf : Nibble) ++ s.vic.reg.mm1)

/-- R646. -/
def execRVicM0c (s : State) : Host.Outcome State Fault Refusal :=
  s.hostReturns ((0xf : Nibble) ++ s.vic.reg.mxc.get 0)

/-- R646. -/
def execRVicM1c (s : State) : Host.Outcome State Fault Refusal :=
  s.hostReturns ((0xf : Nibble) ++ s.vic.reg.mxc.get 1)

/-- R646. -/
def execRVicM2c (s : State) : Host.Outcome State Fault Refusal :=
  s.hostReturns ((0xf : Nibble) ++ s.vic.reg.mxc.get 2)

/-- R646. -/
def execRVicM3c (s : State) : Host.Outcome State Fault Refusal :=
  s.hostReturns ((0xf : Nibble) ++ s.vic.reg.mxc.get 3)

/-- R646. -/
def execRVicM4c (s : State) : Host.Outcome State Fault Refusal :=
  s.hostReturns ((0xf : Nibble) ++ s.vic.reg.mxc.get 4)

/-- R646. -/
def execRVicM5c (s : State) : Host.Outcome State Fault Refusal :=
  s.hostReturns ((0xf : Nibble) ++ s.vic.reg.mxc.get 5)

/-- R646. -/
def execRVicM6c (s : State) : Host.Outcome State Fault Refusal :=
  s.hostReturns ((0xf : Nibble) ++ s.vic.reg.mxc.get 6)

/-- R646. -/
def execRVicM7c (s : State) : Host.Outcome State Fault Refusal :=
  s.hostReturns ((0xf : Nibble) ++ s.vic.reg.mxc.get 7)

/-- R650. -/
def execRVicUnused2F (s : State) : Host.Outcome State Fault Refusal :=
  s.hostReturns (0xff)

/-- R650. -/
def execRVicUnused30 (s : State) : Host.Outcome State Fault Refusal :=
  s.hostReturns (0xff)

/-- R650. -/
def execRVicUnused31 (s : State) : Host.Outcome State Fault Refusal :=
  s.hostReturns (0xff)

/-- R650. -/
def execRVicUnused32 (s : State) : Host.Outcome State Fault Refusal :=
  s.hostReturns (0xff)

/-- R650. -/
def execRVicUnused33 (s : State) : Host.Outcome State Fault Refusal :=
  s.hostReturns (0xff)

/-- R650. -/
def execRVicUnused34 (s : State) : Host.Outcome State Fault Refusal :=
  s.hostReturns (0xff)

/-- R650. -/
def execRVicUnused35 (s : State) : Host.Outcome State Fault Refusal :=
  s.hostReturns (0xff)

/-- R650. -/
def execRVicUnused36 (s : State) : Host.Outcome State Fault Refusal :=
  s.hostReturns (0xff)

/-- R650. -/
def execRVicUnused37 (s : State) : Host.Outcome State Fault Refusal :=
  s.hostReturns (0xff)

/-- R650. -/
def execRVicUnused38 (s : State) : Host.Outcome State Fault Refusal :=
  s.hostReturns (0xff)

/-- R650. -/
def execRVicUnused39 (s : State) : Host.Outcome State Fault Refusal :=
  s.hostReturns (0xff)

/-- R650. -/
def execRVicUnused3A (s : State) : Host.Outcome State Fault Refusal :=
  s.hostReturns (0xff)

/-- R650. -/
def execRVicUnused3B (s : State) : Host.Outcome State Fault Refusal :=
  s.hostReturns (0xff)

/-- R650. -/
def execRVicUnused3C (s : State) : Host.Outcome State Fault Refusal :=
  s.hostReturns (0xff)

/-- R650. -/
def execRVicUnused3D (s : State) : Host.Outcome State Fault Refusal :=
  s.hostReturns (0xff)

/-- R650. -/
def execRVicUnused3E (s : State) : Host.Outcome State Fault Refusal :=
  s.hostReturns (0xff)

/-- R650. -/
def execRVicUnused3F (s : State) : Host.Outcome State Fault Refusal :=
  s.hostReturns (0xff)

/-- R602: bit 8 is kept. -/
def execWVicMnX (n : Nat) (d : Byte) (s : State) : Host.Outcome State Fault Refusal :=
  .next (s.writeVicReg { s.vic.reg with mxX := s.vic.reg.mxX.set n (field (s.vic.reg.mxX.get n) 8 1 ++ d) })

/-- R604. -/
def execWVicMnY (n : Nat) (d : Byte) (s : State) : Host.Outcome State Fault Refusal :=
  .next (s.writeVicReg { s.vic.reg with mxY := s.vic.reg.mxY.set n d })

/-- R606: bit 8 of every sprite's X. -/
def execWVicMsbx (d : Byte) (s : State) : Host.Outcome State Fault Refusal :=
  .next (s.writeVicReg { s.vic.reg with mxX := s.vic.reg.mxX.mapIdx (fun n x => bitOf (bit d n) ++ field x 0 8) })

/-- R608: bit 7 is bit 8 of the compare line. -/
def execWVicCr1 (d : Byte) (s : State) : Host.Outcome State Fault Refusal :=
  let s := s.writeVicReg { s.vic.reg with cr1 := d }
  .next { s with vic := { s.vic with rasterIrqLine := field d 7 1 ++ field s.vic.rasterIrqLine 0 8 } }.rasterCompareOnWrite

/-- R610. -/
def execWVicRaster (d : Byte) (s : State) : Host.Outcome State Fault Refusal :=
  .next { s with vic := { s.vic with rasterIrqLine := field s.vic.rasterIrqLine 8 1 ++ d } }.rasterCompareOnWrite

/-- R612: ignored. -/
def execWVicLpx (_d : Byte) (s : State) : Host.Outcome State Fault Refusal :=
  .next s

/-- R614: ignored. -/
def execWVicLpy (_d : Byte) (s : State) : Host.Outcome State Fault Refusal :=
  .next s

/-- R635: ignored. -/
def execWVicMm (_d : Byte) (s : State) : Host.Outcome State Fault Refusal :=
  .next s

/-- R636: ignored. -/
def execWVicMd (_d : Byte) (s : State) : Host.Outcome State Fault Refusal :=
  .next s

/-- R616. -/
def execWVicMxe (d : Byte) (s : State) : Host.Outcome State Fault Refusal :=
  .next (s.writeVicReg { s.vic.reg with mxe := d })

/-- R618. -/
def execWVicCr2 (d : Byte) (s : State) : Host.Outcome State Fault Refusal :=
  .next (s.writeVicReg { s.vic.reg with cr2 := d &&& 0x3f })

/-- R620: a sprite whose expansion bit is 0 has its flip-flop held set. -/
def execWVicMxye (d : Byte) (s : State) : Host.Outcome State Fault Refusal :=
  let s := s.writeVicReg { s.vic.reg with mxye := d }
  .next { s with vic := { s.vic with
    sprites := s.vic.sprites.mapIdx (fun n p => { p with expansionFF := p.expansionFF || !(bit d n) }) } }

/-- R622. -/
def execWVicMemptr (d : Byte) (s : State) : Host.Outcome State Fault Refusal :=
  .next (s.writeVicReg { s.vic.reg with memptr := d &&& 0xfe })

/-- R624: writing 1 to a bit acknowledges it. -/
def execWVicIrr (d : Byte) (s : State) : Host.Outcome State Fault Refusal :=
  .next { s with vic := { s.vic with irr := s.vic.irr &&& ~~~ (d &&& 0x0f) } }.updateVicIrq

/-- R626. -/
def execWVicImr (d : Byte) (s : State) : Host.Outcome State Fault Refusal :=
  .next { s with vic := { s.vic with imr := d &&& 0x0f } }.updateVicIrq

/-- R628. -/
def execWVicMxdp (d : Byte) (s : State) : Host.Outcome State Fault Refusal :=
  .next (s.writeVicReg { s.vic.reg with mxdp := d })

/-- R632. -/
def execWVicMxmc (d : Byte) (s : State) : Host.Outcome State Fault Refusal :=
  .next (s.writeVicReg { s.vic.reg with mxmc := d })

/-- R634. -/
def execWVicMxxe (d : Byte) (s : State) : Host.Outcome State Fault Refusal :=
  .next (s.writeVicReg { s.vic.reg with mxxe := d })

/-- R641. -/
def execWVicEc (d : Byte) (s : State) : Host.Outcome State Fault Refusal :=
  .next (s.writeVicReg { s.vic.reg with ec := field d 0 4 })

/-- R643. -/
def execWVicB0c (d : Byte) (s : State) : Host.Outcome State Fault Refusal :=
  .next (s.writeVicReg { s.vic.reg with b0c := field d 0 4 })

/-- R643. -/
def execWVicB1c (d : Byte) (s : State) : Host.Outcome State Fault Refusal :=
  .next (s.writeVicReg { s.vic.reg with b1c := field d 0 4 })

/-- R643. -/
def execWVicB2c (d : Byte) (s : State) : Host.Outcome State Fault Refusal :=
  .next (s.writeVicReg { s.vic.reg with b2c := field d 0 4 })

/-- R643. -/
def execWVicB3c (d : Byte) (s : State) : Host.Outcome State Fault Refusal :=
  .next (s.writeVicReg { s.vic.reg with b3c := field d 0 4 })

/-- R645. -/
def execWVicMm0 (d : Byte) (s : State) : Host.Outcome State Fault Refusal :=
  .next (s.writeVicReg { s.vic.reg with mm0 := field d 0 4 })

/-- R645. -/
def execWVicMm1 (d : Byte) (s : State) : Host.Outcome State Fault Refusal :=
  .next (s.writeVicReg { s.vic.reg with mm1 := field d 0 4 })

/-- R647. -/
def execWVicM0c (d : Byte) (s : State) : Host.Outcome State Fault Refusal :=
  .next (s.writeVicReg { s.vic.reg with mxc := s.vic.reg.mxc.set 0 (field d 0 4) })

/-- R647. -/
def execWVicM1c (d : Byte) (s : State) : Host.Outcome State Fault Refusal :=
  .next (s.writeVicReg { s.vic.reg with mxc := s.vic.reg.mxc.set 1 (field d 0 4) })

/-- R647. -/
def execWVicM2c (d : Byte) (s : State) : Host.Outcome State Fault Refusal :=
  .next (s.writeVicReg { s.vic.reg with mxc := s.vic.reg.mxc.set 2 (field d 0 4) })

/-- R647. -/
def execWVicM3c (d : Byte) (s : State) : Host.Outcome State Fault Refusal :=
  .next (s.writeVicReg { s.vic.reg with mxc := s.vic.reg.mxc.set 3 (field d 0 4) })

/-- R647. -/
def execWVicM4c (d : Byte) (s : State) : Host.Outcome State Fault Refusal :=
  .next (s.writeVicReg { s.vic.reg with mxc := s.vic.reg.mxc.set 4 (field d 0 4) })

/-- R647. -/
def execWVicM5c (d : Byte) (s : State) : Host.Outcome State Fault Refusal :=
  .next (s.writeVicReg { s.vic.reg with mxc := s.vic.reg.mxc.set 5 (field d 0 4) })

/-- R647. -/
def execWVicM6c (d : Byte) (s : State) : Host.Outcome State Fault Refusal :=
  .next (s.writeVicReg { s.vic.reg with mxc := s.vic.reg.mxc.set 6 (field d 0 4) })

/-- R647. -/
def execWVicM7c (d : Byte) (s : State) : Host.Outcome State Fault Refusal :=
  .next (s.writeVicReg { s.vic.reg with mxc := s.vic.reg.mxc.set 7 (field d 0 4) })

/-- R651: ignored. -/
def execWVicUnused2F (_d : Byte) (s : State) : Host.Outcome State Fault Refusal :=
  .next s

/-- R651: ignored. -/
def execWVicUnused30 (_d : Byte) (s : State) : Host.Outcome State Fault Refusal :=
  .next s

/-- R651: ignored. -/
def execWVicUnused31 (_d : Byte) (s : State) : Host.Outcome State Fault Refusal :=
  .next s

/-- R651: ignored. -/
def execWVicUnused32 (_d : Byte) (s : State) : Host.Outcome State Fault Refusal :=
  .next s

/-- R651: ignored. -/
def execWVicUnused33 (_d : Byte) (s : State) : Host.Outcome State Fault Refusal :=
  .next s

/-- R651: ignored. -/
def execWVicUnused34 (_d : Byte) (s : State) : Host.Outcome State Fault Refusal :=
  .next s

/-- R651: ignored. -/
def execWVicUnused35 (_d : Byte) (s : State) : Host.Outcome State Fault Refusal :=
  .next s

/-- R651: ignored. -/
def execWVicUnused36 (_d : Byte) (s : State) : Host.Outcome State Fault Refusal :=
  .next s

/-- R651: ignored. -/
def execWVicUnused37 (_d : Byte) (s : State) : Host.Outcome State Fault Refusal :=
  .next s

/-- R651: ignored. -/
def execWVicUnused38 (_d : Byte) (s : State) : Host.Outcome State Fault Refusal :=
  .next s

/-- R651: ignored. -/
def execWVicUnused39 (_d : Byte) (s : State) : Host.Outcome State Fault Refusal :=
  .next s

/-- R651: ignored. -/
def execWVicUnused3A (_d : Byte) (s : State) : Host.Outcome State Fault Refusal :=
  .next s

/-- R651: ignored. -/
def execWVicUnused3B (_d : Byte) (s : State) : Host.Outcome State Fault Refusal :=
  .next s

/-- R651: ignored. -/
def execWVicUnused3C (_d : Byte) (s : State) : Host.Outcome State Fault Refusal :=
  .next s

/-- R651: ignored. -/
def execWVicUnused3D (_d : Byte) (s : State) : Host.Outcome State Fault Refusal :=
  .next s

/-- R651: ignored. -/
def execWVicUnused3E (_d : Byte) (s : State) : Host.Outcome State Fault Refusal :=
  .next s

/-- R651: ignored. -/
def execWVicUnused3F (_d : Byte) (s : State) : Host.Outcome State Fault Refusal :=
  .next s

end Sys2Proof.Machine
end

