-- ==== Sys2Proof/Machine/Dispatch.lean ====
section
/-!
DEFINITION. One arm per bus operation: a direct call of its meaning.
-/

namespace Sys2Proof.Machine

def exec (i : Instr) (s : State) : Host.Outcome State Fault Refusal :=
  match i with
  | .rVicMnX n => Sys2Proof.Machine.execRVicMnX n s
  | .rVicMnY n => Sys2Proof.Machine.execRVicMnY n s
  | .rVicMsbx => Sys2Proof.Machine.execRVicMsbx s
  | .rVicCr1 => Sys2Proof.Machine.execRVicCr1 s
  | .rVicRaster => Sys2Proof.Machine.execRVicRaster s
  | .rVicLpx => Sys2Proof.Machine.execRVicLpx s
  | .rVicLpy => Sys2Proof.Machine.execRVicLpy s
  | .rVicMxe => Sys2Proof.Machine.execRVicMxe s
  | .rVicCr2 => Sys2Proof.Machine.execRVicCr2 s
  | .rVicMxye => Sys2Proof.Machine.execRVicMxye s
  | .rVicMemptr => Sys2Proof.Machine.execRVicMemptr s
  | .rVicIrr => Sys2Proof.Machine.execRVicIrr s
  | .rVicImr => Sys2Proof.Machine.execRVicImr s
  | .rVicMxdp => Sys2Proof.Machine.execRVicMxdp s
  | .rVicMxmc => Sys2Proof.Machine.execRVicMxmc s
  | .rVicMxxe => Sys2Proof.Machine.execRVicMxxe s
  | .rVicMm => Sys2Proof.Machine.execRVicMm s
  | .rVicMd => Sys2Proof.Machine.execRVicMd s
  | .rVicEc => Sys2Proof.Machine.execRVicEc s
  | .rVicB0c => Sys2Proof.Machine.execRVicB0c s
  | .rVicB1c => Sys2Proof.Machine.execRVicB1c s
  | .rVicB2c => Sys2Proof.Machine.execRVicB2c s
  | .rVicB3c => Sys2Proof.Machine.execRVicB3c s
  | .rVicMm0 => Sys2Proof.Machine.execRVicMm0 s
  | .rVicMm1 => Sys2Proof.Machine.execRVicMm1 s
  | .rVicM0c => Sys2Proof.Machine.execRVicM0c s
  | .rVicM1c => Sys2Proof.Machine.execRVicM1c s
  | .rVicM2c => Sys2Proof.Machine.execRVicM2c s
  | .rVicM3c => Sys2Proof.Machine.execRVicM3c s
  | .rVicM4c => Sys2Proof.Machine.execRVicM4c s
  | .rVicM5c => Sys2Proof.Machine.execRVicM5c s
  | .rVicM6c => Sys2Proof.Machine.execRVicM6c s
  | .rVicM7c => Sys2Proof.Machine.execRVicM7c s
  | .rVicUnused2F => Sys2Proof.Machine.execRVicUnused2F s
  | .rVicUnused30 => Sys2Proof.Machine.execRVicUnused30 s
  | .rVicUnused31 => Sys2Proof.Machine.execRVicUnused31 s
  | .rVicUnused32 => Sys2Proof.Machine.execRVicUnused32 s
  | .rVicUnused33 => Sys2Proof.Machine.execRVicUnused33 s
  | .rVicUnused34 => Sys2Proof.Machine.execRVicUnused34 s
  | .rVicUnused35 => Sys2Proof.Machine.execRVicUnused35 s
  | .rVicUnused36 => Sys2Proof.Machine.execRVicUnused36 s
  | .rVicUnused37 => Sys2Proof.Machine.execRVicUnused37 s
  | .rVicUnused38 => Sys2Proof.Machine.execRVicUnused38 s
  | .rVicUnused39 => Sys2Proof.Machine.execRVicUnused39 s
  | .rVicUnused3A => Sys2Proof.Machine.execRVicUnused3A s
  | .rVicUnused3B => Sys2Proof.Machine.execRVicUnused3B s
  | .rVicUnused3C => Sys2Proof.Machine.execRVicUnused3C s
  | .rVicUnused3D => Sys2Proof.Machine.execRVicUnused3D s
  | .rVicUnused3E => Sys2Proof.Machine.execRVicUnused3E s
  | .rVicUnused3F => Sys2Proof.Machine.execRVicUnused3F s
  | .wVicMnX n d => Sys2Proof.Machine.execWVicMnX n d s
  | .wVicMnY n d => Sys2Proof.Machine.execWVicMnY n d s
  | .wVicMsbx d => Sys2Proof.Machine.execWVicMsbx d s
  | .wVicCr1 d => Sys2Proof.Machine.execWVicCr1 d s
  | .wVicRaster d => Sys2Proof.Machine.execWVicRaster d s
  | .wVicLpx d => Sys2Proof.Machine.execWVicLpx d s
  | .wVicLpy d => Sys2Proof.Machine.execWVicLpy d s
  | .wVicMxe d => Sys2Proof.Machine.execWVicMxe d s
  | .wVicCr2 d => Sys2Proof.Machine.execWVicCr2 d s
  | .wVicMxye d => Sys2Proof.Machine.execWVicMxye d s
  | .wVicMemptr d => Sys2Proof.Machine.execWVicMemptr d s
  | .wVicIrr d => Sys2Proof.Machine.execWVicIrr d s
  | .wVicImr d => Sys2Proof.Machine.execWVicImr d s
  | .wVicMxdp d => Sys2Proof.Machine.execWVicMxdp d s
  | .wVicMxmc d => Sys2Proof.Machine.execWVicMxmc d s
  | .wVicMxxe d => Sys2Proof.Machine.execWVicMxxe d s
  | .wVicMm d => Sys2Proof.Machine.execWVicMm d s
  | .wVicMd d => Sys2Proof.Machine.execWVicMd d s
  | .wVicEc d => Sys2Proof.Machine.execWVicEc d s
  | .wVicB0c d => Sys2Proof.Machine.execWVicB0c d s
  | .wVicB1c d => Sys2Proof.Machine.execWVicB1c d s
  | .wVicB2c d => Sys2Proof.Machine.execWVicB2c d s
  | .wVicB3c d => Sys2Proof.Machine.execWVicB3c d s
  | .wVicMm0 d => Sys2Proof.Machine.execWVicMm0 d s
  | .wVicMm1 d => Sys2Proof.Machine.execWVicMm1 d s
  | .wVicM0c d => Sys2Proof.Machine.execWVicM0c d s
  | .wVicM1c d => Sys2Proof.Machine.execWVicM1c d s
  | .wVicM2c d => Sys2Proof.Machine.execWVicM2c d s
  | .wVicM3c d => Sys2Proof.Machine.execWVicM3c d s
  | .wVicM4c d => Sys2Proof.Machine.execWVicM4c d s
  | .wVicM5c d => Sys2Proof.Machine.execWVicM5c d s
  | .wVicM6c d => Sys2Proof.Machine.execWVicM6c d s
  | .wVicM7c d => Sys2Proof.Machine.execWVicM7c d s
  | .wVicUnused2F d => Sys2Proof.Machine.execWVicUnused2F d s
  | .wVicUnused30 d => Sys2Proof.Machine.execWVicUnused30 d s
  | .wVicUnused31 d => Sys2Proof.Machine.execWVicUnused31 d s
  | .wVicUnused32 d => Sys2Proof.Machine.execWVicUnused32 d s
  | .wVicUnused33 d => Sys2Proof.Machine.execWVicUnused33 d s
  | .wVicUnused34 d => Sys2Proof.Machine.execWVicUnused34 d s
  | .wVicUnused35 d => Sys2Proof.Machine.execWVicUnused35 d s
  | .wVicUnused36 d => Sys2Proof.Machine.execWVicUnused36 d s
  | .wVicUnused37 d => Sys2Proof.Machine.execWVicUnused37 d s
  | .wVicUnused38 d => Sys2Proof.Machine.execWVicUnused38 d s
  | .wVicUnused39 d => Sys2Proof.Machine.execWVicUnused39 d s
  | .wVicUnused3A d => Sys2Proof.Machine.execWVicUnused3A d s
  | .wVicUnused3B d => Sys2Proof.Machine.execWVicUnused3B d s
  | .wVicUnused3C d => Sys2Proof.Machine.execWVicUnused3C d s
  | .wVicUnused3D d => Sys2Proof.Machine.execWVicUnused3D d s
  | .wVicUnused3E d => Sys2Proof.Machine.execWVicUnused3E d s
  | .wVicUnused3F d => Sys2Proof.Machine.execWVicUnused3F d s
  | .rCiaPra c => Sys2Proof.Machine.execRCiaPra c s
  | .rCiaPrb c => Sys2Proof.Machine.execRCiaPrb c s
  | .rCiaDdra c => Sys2Proof.Machine.execRCiaDdra c s
  | .rCiaDdrb c => Sys2Proof.Machine.execRCiaDdrb c s
  | .rCiaTaLo c => Sys2Proof.Machine.execRCiaTaLo c s
  | .rCiaTaHi c => Sys2Proof.Machine.execRCiaTaHi c s
  | .rCiaTbLo c => Sys2Proof.Machine.execRCiaTbLo c s
  | .rCiaTbHi c => Sys2Proof.Machine.execRCiaTbHi c s
  | .rCiaTod10ths c => Sys2Proof.Machine.execRCiaTod10ths c s
  | .rCiaTodSec c => Sys2Proof.Machine.execRCiaTodSec c s
  | .rCiaTodMin c => Sys2Proof.Machine.execRCiaTodMin c s
  | .rCiaTodHrs c => Sys2Proof.Machine.execRCiaTodHrs c s
  | .rCiaSdr c => Sys2Proof.Machine.execRCiaSdr c s
  | .rCiaIcr c => Sys2Proof.Machine.execRCiaIcr c s
  | .rCiaCra c => Sys2Proof.Machine.execRCiaCra c s
  | .rCiaCrb c => Sys2Proof.Machine.execRCiaCrb c s
  | .wCiaPra c d => Sys2Proof.Machine.execWCiaPra c d s
  | .wCiaPrb c d => Sys2Proof.Machine.execWCiaPrb c d s
  | .wCiaDdra c d => Sys2Proof.Machine.execWCiaDdra c d s
  | .wCiaDdrb c d => Sys2Proof.Machine.execWCiaDdrb c d s
  | .wCiaTaLo c d => Sys2Proof.Machine.execWCiaTaLo c d s
  | .wCiaTaHi c d => Sys2Proof.Machine.execWCiaTaHi c d s
  | .wCiaTbLo c d => Sys2Proof.Machine.execWCiaTbLo c d s
  | .wCiaTbHi c d => Sys2Proof.Machine.execWCiaTbHi c d s
  | .wCiaTod10ths c d => Sys2Proof.Machine.execWCiaTod10ths c d s
  | .wCiaTodSec c d => Sys2Proof.Machine.execWCiaTodSec c d s
  | .wCiaTodMin c d => Sys2Proof.Machine.execWCiaTodMin c d s
  | .wCiaTodHrs c d => Sys2Proof.Machine.execWCiaTodHrs c d s
  | .wCiaSdr c d => Sys2Proof.Machine.execWCiaSdr c d s
  | .wCiaIcr c d => Sys2Proof.Machine.execWCiaIcr c d s
  | .wCiaCra c d => Sys2Proof.Machine.execWCiaCra c d s
  | .wCiaCrb c d => Sys2Proof.Machine.execWCiaCrb c d s
  | .rViaOrb v => Sys2Proof.Machine.execRViaOrb v s
  | .rViaOra v => Sys2Proof.Machine.execRViaOra v s
  | .rViaDdrb v => Sys2Proof.Machine.execRViaDdrb v s
  | .rViaDdra v => Sys2Proof.Machine.execRViaDdra v s
  | .rViaT1cl v => Sys2Proof.Machine.execRViaT1cl v s
  | .rViaT1ch v => Sys2Proof.Machine.execRViaT1ch v s
  | .rViaT1ll v => Sys2Proof.Machine.execRViaT1ll v s
  | .rViaT1lh v => Sys2Proof.Machine.execRViaT1lh v s
  | .rViaT2cl v => Sys2Proof.Machine.execRViaT2cl v s
  | .rViaT2ch v => Sys2Proof.Machine.execRViaT2ch v s
  | .rViaSr v => Sys2Proof.Machine.execRViaSr v s
  | .rViaAcr v => Sys2Proof.Machine.execRViaAcr v s
  | .rViaPcr v => Sys2Proof.Machine.execRViaPcr v s
  | .rViaIfr v => Sys2Proof.Machine.execRViaIfr v s
  | .rViaIer v => Sys2Proof.Machine.execRViaIer v s
  | .rViaOraNh v => Sys2Proof.Machine.execRViaOraNh v s
  | .wViaOrb v d => Sys2Proof.Machine.execWViaOrb v d s
  | .wViaOra v d => Sys2Proof.Machine.execWViaOra v d s
  | .wViaDdrb v d => Sys2Proof.Machine.execWViaDdrb v d s
  | .wViaDdra v d => Sys2Proof.Machine.execWViaDdra v d s
  | .wViaT1cl v d => Sys2Proof.Machine.execWViaT1cl v d s
  | .wViaT1ch v d => Sys2Proof.Machine.execWViaT1ch v d s
  | .wViaT1ll v d => Sys2Proof.Machine.execWViaT1ll v d s
  | .wViaT1lh v d => Sys2Proof.Machine.execWViaT1lh v d s
  | .wViaT2cl v d => Sys2Proof.Machine.execWViaT2cl v d s
  | .wViaT2ch v d => Sys2Proof.Machine.execWViaT2ch v d s
  | .wViaSr v d => Sys2Proof.Machine.execWViaSr v d s
  | .wViaAcr v d => Sys2Proof.Machine.execWViaAcr v d s
  | .wViaPcr v d => Sys2Proof.Machine.execWViaPcr v d s
  | .wViaIfr v d => Sys2Proof.Machine.execWViaIfr v d s
  | .wViaIer v d => Sys2Proof.Machine.execWViaIer v d s
  | .wViaOraNh v d => Sys2Proof.Machine.execWViaOraNh v d s
  | .vaR => Sys2Proof.Machine.execVaR s
  | .vaI => Sys2Proof.Machine.execVaI s
  | .vaG => Sys2Proof.Machine.execVaG s
  | .vaP => Sys2Proof.Machine.execVaP s
  | .vaS2 => Sys2Proof.Machine.execVaS2 s
  | .vaC => Sys2Proof.Machine.execVaC s
  | .vaS1 => Sys2Proof.Machine.execVaS1 s
  | .vaS3 => Sys2Proof.Machine.execVaS3 s

end Sys2Proof.Machine
end

