-- ==== Sys2Proof/Machine/Gcr.lean ====
section
/-!
DEFINITION. GCR, and the disk surface of a D64 image (spec/47_disk.md R1150-R1154). Bits of a byte stand most significant first.
-/

namespace Sys2Proof.Machine

/-! ### The code (R1150) -/

/-- R1150: the 5-bit code of a nibble. -/
def gcrCode (n : Nibble) : BitVec 5 :=
  match n.toNat with
  | 0 => 0b01010
  | 1 => 0b01011
  | 2 => 0b10010
  | 3 => 0b10011
  | 4 => 0b01110
  | 5 => 0b01111
  | 6 => 0b10110
  | 7 => 0b10111
  | 8 => 0b01001
  | 9 => 0b11001
  | 10 => 0b11010
  | 11 => 0b11011
  | 12 => 0b01101
  | 13 => 0b11101
  | 14 => 0b11110
  | _ => 0b10101

/-- R1153: the nibble of a code word, where the word is in the table. -/
def gcrNibble (c : BitVec 5) : Option Nibble :=
  match c.toNat with
  | 0b01010 => some 0
  | 0b01011 => some 1
  | 0b10010 => some 2
  | 0b10011 => some 3
  | 0b01110 => some 4
  | 0b01111 => some 5
  | 0b10110 => some 6
  | 0b10111 => some 7
  | 0b01001 => some 8
  | 0b11001 => some 9
  | 0b11010 => some 10
  | 0b11011 => some 11
  | 0b01101 => some 12
  | 0b11101 => some 13
  | 0b11110 => some 14
  | 0b10101 => some 15
  | _ => none

/-- The bits of a word, most significant first. -/
def bitsOf {w : Nat} (v : BitVec w) : List Bool := (List.range w).map v.getMsbD

/-- The high nibble first. -/
def gcrByte (b : Byte) : List Bool := bitsOf (gcrCode (field b 4 4)) ++ bitsOf (gcrCode (field b 0 4))

/-- R1150: bytes as GCR bits, 10 bits for each. -/
def gcrEncode (l : List Byte) : List Bool := l.flatMap gcrByte

/-- R1153: as many bytes as asked for from the front of a bit stream, and the rest of the stream. -/
def gcrDecode : Nat → List Bool → Option (List Byte × List Bool)
  | 0, bits => some ([], bits)
  | n + 1, a4 :: a3 :: a2 :: a1 :: a0 :: b4 :: b3 :: b2 :: b1 :: b0 :: rest =>
    match gcrNibble (bitOf a4 ++ bitOf a3 ++ bitOf a2 ++ bitOf a1 ++ bitOf a0),
        gcrNibble (bitOf b4 ++ bitOf b3 ++ bitOf b2 ++ bitOf b1 ++ bitOf b0), gcrDecode n rest with
    | some hi, some lo, some (bytes, tail) => some ((hi ++ lo) :: bytes, tail)
    | _, _, _ => none
  | _, _ => none

/-! ### Sectors and tracks (R1151, R1152) -/

/-- Bytes written as they are, without GCR. -/
def rawBits (l : List Byte) : List Bool := l.flatMap bitsOf

/-- R1101: sectors per track. -/
def sectorsOnTrack (t : Nat) : Nat := if t ≤ 17 then 21 else if t ≤ 24 then 19 else if t ≤ 30 then 18 else 17

/-- R1151: the number of sectors before track t, counted from 1. -/
def sectorsBefore (t : Nat) : Nat := ((List.range (t - 1)).map (fun k => sectorsOnTrack (k + 1))).foldl (· + ·) 0

/-- R1151: the 256 bytes of a sector of the image. -/
def sectorBytes (image : List Byte) (t s : Nat) : List Byte := (image.drop (256 * (sectorsBefore t + s))).take 256

/-- R1151: the disk ID, bytes 0xA2 and 0xA3 of track 18 sector 0. -/
def diskId (image : List Byte) : Byte × Byte :=
  let b := sectorBytes image 18 0
  (b.getD 0xa2 0, b.getD 0xa3 0)

def xorAll (l : List Byte) : Byte := l.foldl (· ^^^ ·) 0

/-- R1152: the header before GCR. -/
def headerBytes (id : Byte × Byte) (t s : Nat) : List Byte :=
  let t := BitVec.ofNat 8 t
  let s := BitVec.ofNat 8 s
  [0x08, s ^^^ t ^^^ id.2 ^^^ id.1, s, t, id.2, id.1, 0x0f, 0x0f]

/-- R1152: the data block before GCR. -/
def dataBytes (data : List Byte) : List Byte := [0x07] ++ data ++ [xorAll data, 0x00, 0x00]

/-- R1152: the SYNC mark and the gap. -/
def syncBits : List Bool := List.replicate 40 true
def gapBits : List Bool := rawBits (List.replicate 9 0x55)

/-- R1152: one sector on the surface, 363 bytes. -/
def sectorBits (id : Byte × Byte) (t s : Nat) (data : List Byte) : List Bool :=
  syncBits ++ gcrEncode (headerBytes id t s) ++ gapBits ++ syncBits ++ gcrEncode (dataBytes data) ++ gapBits

/-- R1152: the sectors of a track in order, then 0x55 up to the track's bytes. -/
def d64TrackBits (image : List Byte) (t : Nat) : List Bool :=
  let n := sectorsOnTrack t
  ((List.range n).flatMap fun s => sectorBits (diskId image) t s (sectorBytes image t s)) ++
    rawBits (List.replicate (Config.zoneTrackBits (2 * t - 1) / 8 - 363 * n) 0x55)

/-- R1151: the number of tracks of an image of this many bytes, 35 or 40; `none` for any other size. -/
def d64Tracks (bytes : Nat) : Option Nat :=
  if bytes = 683 * 256 then some 35 else if bytes = 768 * 256 then some 40 else none

/-- R1151: half-track h of an image of that many tracks: track t is half-track 2t - 1, all others are 0 bits. -/
def d64HalfTrack (image : List Byte) (tracks h : Nat) : Track :=
  let n := Config.zoneTrackBits h
  if h % 2 = 1 ∧ (h + 1) / 2 ≤ tracks then ⟨BitVec.ofNat 16 n, d64TrackBits image ((h + 1) / 2)⟩
  else ⟨BitVec.ofNat 16 n, List.replicate n false⟩

/-- R1150, R1151: the surface of a D64 image. -/
def expandD64 (image : List Byte) : Option (List Track) :=
  (d64Tracks image.length).map fun n => (List.range 84).map fun i => d64HalfTrack image n (i + 1)

/-! ### Reading a track back (R1153, R1154) -/

/-- R1153: the stream from the 0 bit after the next SYNC on; `ones` counts the 1 bits just before it. -/
def afterSync : Nat → List Bool → List Bool
  | _, [] => []
  | ones, true :: t => afterSync (ones + 1) t
  | ones, false :: t => if 10 ≤ ones then false :: t else afterSync 0 t

/-- R1153: the sector number and data of a header and its data block, if the marks and checksums match; the stream starts
after the header's SYNC. -/
def readSector (bits : List Bool) : Option (Nat × Nat × List Byte) :=
  match gcrDecode 8 bits with
  | some ([0x08, c, s, t, id2, id1, _, _], rest) =>
    match gcrDecode 260 (afterSync 0 rest) with
    | some (0x07 :: block, _) =>
      let data := block.take 256
      if c = s ^^^ t ^^^ id2 ^^^ id1 ∧ block.getD 256 0 = xorAll data then some (t.toNat, s.toNat, data) else none
    | _ => none
  | _ => none

/-- R1153: the valid sectors of a stream, one attempt for each SYNC followed by a 0 bit; `ones` counts the 1 bits just before. -/
def readSectors : Nat → List Bool → List (Nat × Nat × List Byte)
  | _, [] => []
  | ones, true :: t => readSectors (ones + 1) t
  | ones, false :: t => (if 10 ≤ ones then (readSector (false :: t)).toList else []) ++ readSectors 0 t

/-- R1153: the stream is circular, so it is read twice round. -/
def decodeTrack (t : Track) : List (Nat × Nat × List Byte) := readSectors 0 (t.data ++ t.data)

/-- R1154: the D64 of a surface: each valid sector at its offset. The model's choices (DESIGN CHOICE, notes/assumptions/39.md): there is no
D64, `none`, where a sector is missing or invalid; of two valid copies of a sector the first counts; and one whose header names another track
than the one it lies on does not. -/
def decodeDisk (tracks : List Track) (n : Nat) : Option (List Byte) :=
  let found := (List.range n).map fun k => decodeTrack (tracks.getD (2 * k) ⟨0, []⟩)
  let wanted := (List.range n).flatMap fun k => (List.range (sectorsOnTrack (k + 1))).map fun s => (k, s)
  wanted.foldl (init := some []) fun acc x =>
    match acc, (found.getD x.1 []).find? (fun y => y.1 == x.1 + 1 && y.2.1 == x.2) with
    | some l, some y => some (l ++ y.2.2)
    | _, _ => none

end Sys2Proof.Machine
end

