-- ==== Sys2Proof/Machine/HostOps.lean ====
section
/-!
DEFINITION. The host operations: configuration, the two resets and power-on, disks, pins (spec/40_clock_bus.md R440,
spec/70_reset_and_hazards.md R1400-R1403, spec/47_disk.md R1140, R1141, spec/42_vic_registers.md R662). Each takes effect between two
system cycles.
-/

namespace Sys2Proof.Machine

/-- R3, R440, R1302 code 1: an unknown revision is rejected and nothing else changes. The parameters alone are set: `TrackBits` and
`ColorRamInit` reach the disk and colour RAM at power-on (DESIGN CHOICE, notes/assumptions/46.md). -/
def State.configure (s : State) (r : ConfigRequest) : State :=
  match r.vic, r.cia with
  | some v, some .mos6526 => { s with cfg := { r.rest with vicRevision := v }, configureOk := true }
  | _, _ => { s with configureOk := false }

/-- R705 at cycle 1. -/
def resetX (cfg : Config) : BitVec 16 := (((cycleRow? cfg).bind (fun t => t 1)).map (·.x0)).getD Vic.reset.xCounter

/-- R1401 item 1: the frame buffers are kept. `zBuffer` and `pixelSource` take the values of `Vic.reset` (DESIGN CHOICE,
notes/assumptions/32.md). -/
def Vic.hostReset (v : Vic) (cfg : Config) : Vic :=
  { Vic.reset with xCounter := resetX cfg, screenBuffer1 := v.screenBuffer1, screenBuffer2 := v.screenBuffer2 }

/-- R117: both dirty flags are false; R1202: the flag of the side that is reset is then set, so that the next phi1 recomputes the lines
(DEDUCED, notes/assumptions/30.md). -/
def Iec.resetDirty (x : Iec) (c64 drive : Bool) : Iec := { x with dirtyC64 := c64, dirtyDrive := drive }

/-- R1401: RESTORE and the expansion port keep pulling if they do; `cycle` and `frame` are kept. -/
def State.resetHost (s : State) : State :=
  { s with
    vic := s.vic.hostReset s.cfg
    cia1 := Cia.reset
    cia2 := Cia.reset
    iec := { s.iec with atnLine := true, clkLine := true, dataLine := true }.resetDirty true false
    lines := { s.lines with irqVic := false, irqCia1 := false, nmiCia2 := false } }

/-- R1402, U18: a VIA after a drive reset: its timers are drawn, and the host's pin levels stay. -/
def State.resetVia (s : State) (v : ViaId) : State :=
  let c := s.drawWord
  let l := c.2.drawWord
  let d := l.2.drawWord
  let b := d.2.drawByte
  let x := s.via v
  b.2.setViaFields v { Via.reset with
    t1Counter := c.1
    t1Latch := l.1
    t2Counter := d.1
    t2LatchLo := b.1
    extPA := x.extPA
    extPB := x.extPB
    extCA2 := x.extCA2
    extCB1 := x.extCB1
    extCB2 := x.extCB2 }

/-- R1402: the disk, `changeSignal` and `changeTimer` are kept, though R116's reset column has the last two false and 0 (DEDUCED,
notes/assumptions/45.md). -/
def State.resetDrive (s : State) : State :=
  let s := (s.resetVia .via1).resetVia .via2
  { s with
    head := { Head.reset with changeSignal := s.head.changeSignal, changeTimer := s.head.changeTimer }
    lines := { s.lines with driveIrqVia1 := false, driveIrqVia2 := false }
    driveTimeAcc := 0
    iec := s.iec.resetDirty false true }

/-- R1400, R1403: power-on is both resets, with the dirty flags of both sides, and these values for what they keep. Host RAM is outside
the block. `configure` is an operation of its own, and power-on goes on with the parameters that stand, also after a rejected one (DESIGN
CHOICE, notes/assumptions/47.md). -/
def State.powerUp (s : State) : State :=
  let s := s.resetHost.resetDrive
  { s with
    cycle := 0
    frame := 0
    vic := { s.vic with screenBuffer1 := [], screenBuffer2 := [] }
    disk := Disk.powerOn s.cfg
    head := { s.head with changeSignal := false, changeTimer := 0 }
    iec := s.iec.resetDirty true true
    colorRam := s.cfg.colorRamInit }

/-- R1140, U22: the surface of a valid image, and whether it is protected. -/
def DiskImage.surface : DiskImage → Option (List Track × Bool)
  | .d64 bytes wp => (expandD64 bytes).map fun t => (t, wp)
  | .g64 tracks wp =>
    if tracks.length = 84 ∧ tracks.all (fun t => t.data.length == t.length.toNat && t.data.length ≤ 8 * 7928) then some (tracks, wp) else none

/-- R1140, R1141: the change signal starts. -/
def State.changeDisk (s : State) : State :=
  { s with head := { s.head with changeSignal := true, changeTimer := s.cfg.changeSignalCycles } }

/-- R1140. Where the half-track under the head has length 0 the offset is none of it, and R1160 recovers it (notes/assumptions/28.md). -/
def State.insertDisk (s : State) (image : DiskImage) : Host.Outcome State Fault Refusal :=
  match image.surface with
  | none => .refused .invalidImage
  | some (tracks, wp) =>
    let d : Disk := ⟨true, tracks, wp⟩
    let n := d.trackLength s.head.halftrack
    let s := { s.changeDisk with disk := d }
    .next (if n = 0 then s.checkOffset else
      { s with head := { s.head with bitoffset := BitVec.ofNat 16 (s.head.bitoffset.toNat % n) } })

/-- R1141. -/
def State.ejectDisk (s : State) : State := { s.changeDisk with disk := { s.disk with inserted := false } }

/-- R440 `setPins` of a CIA. -/
def State.setCiaPins (s : State) (c : CiaId) (port : PinPort) (levels : Byte) : State :=
  match port with
  | .a => s.setCia c { s.cia c with extPA := levels }
  | .b => s.setCia c { s.cia c with extPB := levels }

/-- R440 `setPins` of a VIA. -/
def State.setViaPins (s : State) (v : ViaId) (port : PinPort) (levels : Byte) : State :=
  match port with
  | .a => s.setViaFields v { s.via v with extPA := levels }
  | .b => s.setViaFields v { s.via v with extPB := levels }

/-- R662 `setLightPen`. The edge falls between two cycles: `xCounter` is that of the cycle just run and `yCounter` already that of the coming
one, so at the end of a line LPX and LPY come from different lines (DEDUCED, notes/assumptions/35.md). -/
def State.setLightPen (s : State) (level : Bool) : State :=
  let v := s.vic
  let t :=
    if v.lpPin && !level && !v.lpTriggeredThisFrame then
      { s with vic := { v with
        lpx := field v.xCounter 1 8
        lpy := field v.yCounter 0 8
        lpTriggeredThisFrame := true
        irr := v.irr ||| 0x08 } }.updateVicIrq
    else s
  { t with vic := { t.vic with lpPin := level } }

/-- R440: one host operation. Suspending, resuming, reading a frame (`State.readFrame` is what it returns), warp mode and snapshots
change no state. -/
def applyHostOp (op : HostOp) (s : State) : Host.Outcome State Fault Refusal :=
  match op with
  | .configure r => .next (s.configure r)
  | .powerOn => .next s.powerUp
  | .resetHost => .next s.resetHost
  | .resetDrive => .next s.resetDrive
  | .insertDisk image => s.insertDisk image
  | .ejectDisk => .next s.ejectDisk
  | .setCiaPins c port levels => .next (s.setCiaPins c port levels)
  | .setViaPins v port levels => .next (s.setViaPins v port levels)
  | .setControlPins ca2 cb1 cb2 => .next { s with via1 := { s.via1 with extCA2 := ca2, extCB1 := cb1, extCB2 := cb2 } }
  | .setCnt c level => .next (s.setCia c ((s.cia c).setCnt level))
  | .setFlag c level => .next (s.setCia c ((s.cia c).setFlag level))
  | .setSp c level => .next (s.setCia c ((s.cia c).setSp level))
  | .setLightPen level => .next (s.setLightPen level)
  | .pullNmiRestore => .next (s.pull .restore)
  | .releaseNmiRestore => .next (s.release .restore)
  | .assertUltimax => .refused .ultimax
  | .suspend => .next s
  | .resume => .next s
  | .readFrame => .next s
  | .warpMode => .next s
  | .saveSnapshot => .next s

/-- R440: the operations due now, in order; the first that is not due comes one cycle nearer. -/
def applyDue : List (Nat × HostOp) → State → Host.Outcome State Fault Refusal
  | [], s => .next { s with hostOps := [] }
  | (0, op) :: t, s => andThen (applyHostOp op s) (applyDue t)
  | (n + 1, op) :: t, s => .next { s with hostOps := (n, op) :: t }

end Sys2Proof.Machine
end

