-- ==== Sys2Proof/Machine/Iec.lean ====
section
/-!
DEFINITION. The IEC bus lines (spec/48_iec.md R1200-R1206).
-/

namespace Sys2Proof.Machine

/-- R1203: the drive answers ATN by holding DATA until ATNA acknowledges it: `atnAsserted xor pb[4]`. -/
def atnGate (atnLine : Bool) (pb : Byte) : Bool := (!atnLine) != (bit pb 4)

/-- R1204: the lines from CIA2's port A outputs and VIA1's port B outputs; ATN first, since the drive's DATA term depends on it. -/
def iecLines (i : Iec) (pa pb : Byte) (connected : Bool) : Iec :=
  let atn := !(bit pa 3)
  { i with
    atnLine := atn
    clkLine := !(bit pa 4 || (connected && bit pb 3))
    dataLine := !(bit pa 5 || (connected && (bit pb 1 || atnGate atn pb))) }

/-- R1204 `iecUpdate`. -/
def State.iecUpdate (s : State) : State :=
  let pa := s.cia2.paLatch ||| ~~~ s.cia2.ddra
  let i := iecLines s.iec pa (viaPbOut s.via1) s.cfg.driveConnected
  { s with iec := { i with
    dirtyC64 := false
    dirtyDrive := false
    ciaPins := (pa, s.cia2.ddra)
    devicePins := (s.via1.orb, s.via1.ddrb) } }

/-- R400: the lines are recomputed when either side is dirty. -/
def State.iecStep (s : State) : State := if s.iec.dirtyC64 || s.iec.dirtyDrive then s.iecUpdate else s

end Sys2Proof.Machine
end

