-- ==== Sys2Proof/Machine/Cycle.lean ====
section
/-!
DEFINITION. One system cycle (spec/40_clock_bus.md R400-R421): the VIC's step, the CIA ticks, the IEC update, the host CPU's phi2, the
drive, and the advance of the raster position. `ex` is the meaning of an operation; `step` gives `exec` for it.
-/

namespace Sys2Proof.Machine

/-- The meaning of an operation. -/
abbrev Meaning := Instr → State → Host.Outcome State Fault Refusal

/-- A bus word is decoded and runs. Only a VA word can be reserved (R310). -/
def runWord (ex : Meaning) (b : BusWord) (s : State) : Host.Outcome State Fault Refusal :=
  match decode b with
  | .ok i => ex i s
  | .error _ => .refused .reservedVicAccess

/-! ### The host CPU's phi2 -/

/-- R203: what an address of the I/O page selects; its upper four bits are the page. -/
inductive IoTarget where
  | chip (b : BusWord)
  | colorRam (a : Nat)
  /-- SID and cartridge: outside the block. -/
  | outside
  deriving DecidableEq, Repr

/-- The word of an access: bit 6 (HV) or bit 5 (HC, DV) is 1 for a read (R301-R303). -/
def hvWord (read : Bool) (offset : BitVec 6) (data : Byte) : BusWord := ⟨.hv, ((0 : BitVec 1) ++ bitOf read) ++ offset, data⟩

def hcWord (read : Bool) (c : CiaId) (offset : BitVec 4) (data : Byte) : BusWord :=
  ⟨.hc, (((0 : BitVec 2) ++ bitOf read) ++ (0 : BitVec 1)) ++ offset ||| c.bits, data⟩

def dvWord (read : Bool) (v : ViaId) (offset : BitVec 4) (data : Byte) : BusWord :=
  ⟨.dv, (((0 : BitVec 2) ++ bitOf read) ++ (0 : BitVec 1)) ++ offset ||| v.bits, data⟩

/-- R203. -/
def ioTarget (read : Bool) (addr : BitVec 16) (data : Byte) : IoTarget :=
  match (field addr 8 4).toNat with
  | 0x0 | 0x1 | 0x2 | 0x3 => .chip (hvWord read (field addr 0 6) data)
  | 0x8 | 0x9 | 0xa | 0xb => .colorRam (addr.toNat % 1024)
  | 0xc => .chip (hcWord read .cia1 (field addr 0 4) data)
  | 0xd => .chip (hcWord read .cia2 (field addr 0 4) data)
  | _ => .outside

/-- R208, U11: the upper nibble of a colour-RAM read is a draw. -/
def State.readColorRam (s : State) (a : Nat) : Host.Outcome State Fault Refusal :=
  let n := s.drawNibble
  n.2.hostReturns (n.1 ++ (s.colorRam.read a).extractLsb' 0 4)

/-- Colour RAM is 4 bits wide (R200). -/
def State.writeColorRam (s : State) (a : Nat) (data : Byte) : State := { s with colorRam := s.colorRam.write a (data &&& 0x0f) }

/-- R219, U7: a caller's CIA access with an offset outside 0..15 is a diagnostic; a read returns 0. -/
def State.unknownCiaRead (s : State) : Host.Outcome State Fault Refusal := (s.raise .unknownAddress).hostReturns 0

/-- The host CPU's access, when its cycle proceeds. -/
def hostAccess (ex : Meaning) (a : HostAccess) (s : State) : Host.Outcome State Fault Refusal :=
  match a with
  | .idle => .next s
  | .ramRead addr => s.hostReturns (s.ram.read addr.toNat)
  | .ramWrite addr data => .next { s with ram := s.ram.write addr.toNat data }
  | .ioRead addr =>
    match ioTarget true addr 0 with
    | .chip b => runWord ex b s
    | .colorRam a => s.readColorRam a
    | .outside => .next s
  | .ioWrite addr data =>
    match ioTarget false addr data with
    | .chip b => runWord ex b s
    | .colorRam a => .next (s.writeColorRam a data)
    | .outside => .next s
  | .ciaCallRead c offset =>
    if offset < 16 then runWord ex (hcWord true c (BitVec.ofNat 4 offset) 0) s else s.unknownCiaRead
  | .ciaCallWrite c offset data =>
    if offset < 16 then runWord ex (hcWord false c (BitVec.ofNat 4 offset) data) s else .next (s.raise .unknownAddress)

/-- R411: the cycle is a write. -/
def HostAccess.isWrite : HostAccess → Bool
  | .ramWrite _ _ => true
  | .ioWrite _ _ => true
  | .ciaCallWrite _ _ _ => true
  | _ => false

/-- R411: whether the CPU's cycle proceeds. -/
def State.hostProceeds (s : State) (a : HostAccess) : Bool :=
  if s.vic.aec then false
  else if s.vic.baLow then
    match s.cfg.cpuBaPolicy with
    | .sourceLiteral => !a.isWrite
    | .rdy6510 => a.isWrite
  else true

/-- R411 `hostCpuPhi2`: a held access stays the CPU's next one. -/
def hostCpuPhi2 (ex : Meaning) (s : State) : Host.Outcome State Fault Refusal :=
  match s.hostQueue with
  | [] => .next s
  | a :: t => if s.hostProceeds a then hostAccess ex a { s with hostQueue := t } else .next s

/-! ### The drive -/

/-- R205: the VIA an address of the drive CPU selects. -/
def driveTarget (addr : BitVec 16) : Option ViaId :=
  if field addr 10 6 = 6 then some .via1 else if field addr 10 6 = 7 then some .via2 else none

/-- The drive CPU's access; one to another address does not reach the block. -/
def driveAccess (ex : Meaning) (a : DriveAccess) (s : State) : Host.Outcome State Fault Refusal :=
  match a with
  | .idle => .next s
  | .read addr =>
    match driveTarget addr with
    | some v => runWord ex (dvWord true v (field addr 0 4) 0) s
    | none => .next s
  | .write addr data =>
    match driveTarget addr with
    | some v => runWord ex (dvWord false v (field addr 0 4) data) s
    | none => .next s

/-- R421, the drive CPU's part. -/
def driveCpuCycle (ex : Meaning) (s : State) : Host.Outcome State Fault Refusal :=
  match s.driveQueue with
  | [] => .next s
  | a :: t => driveAccess ex a { s with driveQueue := t }

/-- R421 `driveCycle`. -/
def driveCycle (ex : Meaning) (s : State) : Host.Outcome State Fault Refusal :=
  driveCpuCycle ex ((s.diskAdvance.viaTick .via1).viaTick .via2)

/-- R420: n turns of the loop; each turn's drive cycle is paid for after it. -/
def driveLoop (ex : Meaning) : Nat → State → Host.Outcome State Fault Refusal
  | 0, s => .next s
  | n + 1, s => andThen (driveCycle ex s) fun s => driveLoop ex n { s with driveTimeAcc := s.driveTimeAcc - driveCyclePs }

/-- R420: the number of whole drive cycles in the accumulator. -/
def driveCycles (acc : BitVec 64) : Nat := (acc.toInt / driveCyclePs.toInt).toNat

/-- R420 `driveAdvance`. -/
def driveAdvance (ex : Meaning) (s : State) : Host.Outcome State Fault Refusal :=
  let s := { s with driveTimeAcc := s.driveTimeAcc + hostCyclePs s.cfg }
  driveLoop ex (driveCycles s.driveTimeAcc) s

/-! ### The raster position -/

/-- R940: `workingBuffer <- 3 - workingBuffer`. -/
def BufferId.other : BufferId → BufferId
  | .one => .two
  | .two => .one

/-- R404: the frame boundary. -/
def State.frameBoundary (s : State) : State :=
  State.put { s with
    frame := s.frame + 1
    cia1 := s.cia1.todPulse
    cia2 := s.cia2.todPulse
    vic := { s.vic with workingBuffer := s.vic.workingBuffer.other } } .vsync

/-- R403. -/
def State.advanceRasterPosition (s : State) : State :=
  if s.vic.rasterCycle < cyclesPerLine s.cfg then { s with vic := { s.vic with rasterCycle := s.vic.rasterCycle + 1 } }
  else if s.vic.yCounter.toNat < linesPerFrame s.cfg - 1 then
    { s with vic := { s.vic with rasterCycle := 1, yCounter := s.vic.yCounter + 1 } }
  else State.frameBoundary { s with vic := { s.vic with rasterCycle := 1, yCounter := 0 } }

/-! ### The cycle -/

/-- R700 step 9. -/
def vicPhi2 (ex : Meaning) (row : CycleRow) (s : State) : Host.Outcome State Fault Refusal :=
  match s.vic.phi2Word row with
  | some w => runWord ex ⟨.va, w, 0⟩ s
  | none => .next s

/-- R700 `vicStep`. -/
def vicStep (ex : Meaning) (row : CycleRow) (s : State) : Host.Outcome State Fault Refusal :=
  let s := s.vicBeforeAccess row
  andThen (runWord ex ⟨.va, s.vic.phi1Word row, 0⟩ s) fun s =>
    andThen (vicPhi2 ex row s) fun s => .next s.vicAfterAccess

/-- R400: the CIA ticks, in their order, and the IEC update. -/
def State.chipTicks (s : State) : State := ((s.ciaTick .cia1).ciaTick .cia2).iecStep

/-- R400: the end of the cycle. -/
def State.endCycle (s : State) : State := { s with cycle := s.cycle + 1 }.advanceRasterPosition

/-- R400 `executeOneCycle`, after the VIC's step. -/
def afterVic (ex : Meaning) (s : State) : Host.Outcome State Fault Refusal :=
  andThen (hostCpuPhi2 ex s.chipTicks) fun s =>
    andThen (if s.cfg.driveConnected then driveAdvance ex s else .next s) fun s => .next s.endCycle

/-- R102, R1301 code 2: the raster cycle is one of the line's. -/
def State.checkRasterCycle (s : State) : State :=
  let n := cyclesPerLine s.cfg
  let c := s.vic.rasterCycle
  s.recover (decide (1 ≤ c ∧ c ≤ n)) { s with vic := { s.vic with rasterCycle := clamp 1 n c } }

/-- R400 `executeOneCycle`; an NTSC run without its table is refused (R702, R1302 code 2). -/
def cycleWith (ex : Meaning) (s : State) : Host.Outcome State Fault Refusal :=
  match cycleRow? s.cfg with
  | none => .refused .ntscTableMissing
  | some table =>
    let s := s.checkRasterCycle
    andThen (vicStep ex (entryOr table s.vic.rasterCycle) s) (afterVic ex)

/-- R440 with R400: the host operations due before this cycle, then the cycle. -/
def stepWith (ex : Meaning) (s : State) : Host.Outcome State Fault Refusal := andThen (applyDue s.hostOps s) (cycleWith ex)

end Sys2Proof.Machine
end

