-- ==== Sys2Proof/Machine/Fetch.lean ====
section
/-!
DEFINITION. How a bus word is placed where the next cycle takes it (notes/assumptions/1.md): a host or drive access becomes the only one
waiting, in a cycle in which it proceeds; a VIC access gets a cycle in which the table schedules it.
-/

namespace Sys2Proof.Machine

/-- The first table cycle whose entry passes the test, or the one the machine is in. -/
def State.findCycle (s : State) (test : CycleRow → Bool) : Nat :=
  match cycleRow? s.cfg with
  | none => s.vic.rasterCycle
  | some table => ((List.range 65).find? fun k => ((table (k + 1)).map test).getD false).map (· + 1) |>.getD s.vic.rasterCycle

/-- A cycle in which nothing can pull BA and the VIC makes a refresh or idle access. -/
def CycleRow.quiet (row : CycleRow) : Bool :=
  row.baSprites == 0 && !row.baBadLine && row.phi2 == .cpu && (row.phi1 == .r || row.phi1 == .i)

/-- The cycle the machine is in lets every host access proceed: no sprite pulls BA, none can start to, and no bad line can. -/
def State.letsHostRun (s : State) : Bool :=
  (s.row?.map fun row =>
    !row.baBadLine && !row.dmaStart && row.phi1 != .g && s.vic.dmaBits &&& row.baSprites == 0 && (s.vic.phi2Word row).isNone).getD false

/-- Raster cycle c is the next. -/
def State.atCycle (s : State) (c : Nat) : State := { s with vic := { s.vic with rasterCycle := c } }

/-- The host CPU presents this access, and only it, in the next cycle. -/
def State.presentHost (s : State) (a : HostAccess) : State :=
  let s := { s with hostOps := [], hostQueue := [a] }
  if s.letsHostRun then s else s.atCycle (s.findCycle CycleRow.quiet)

/-- The drive CPU presents this access, and only it, in the first drive cycle of the next cycle, which has at least one. -/
def State.presentDrive (s : State) (a : DriveAccess) : State :=
  { s with
    hostOps := []
    driveQueue := [a]
    cfg := { s.cfg with driveConnected := true }
    driveTimeAcc := if (s.driveTimeAcc + hostCyclePs s.cfg).toInt < driveCyclePs.toInt then driveCyclePs - hostCyclePs s.cfg else s.driveTimeAcc }

/-- Every sprite's DMA runs. -/
def Vic.allDma (v : Vic) : Vic := { v with sprites := v.sprites.mapIdx fun _ p => { p with dma := true } }

/-- The line is a bad line (R722). -/
def Vic.asBadLine (v : Vic) : Vic := { v with denWasSet := true, yCounter := 0x30 + v.reg.yscroll.setWidth 32 }

/-- The next cycle is one whose table entry schedules the VIC access of this word (R304, R701). -/
def State.presentVic (s : State) (w : Byte) : State :=
  let s := { s with hostOps := [] }
  match w.toNat with
  | 0x0 => s.atCycle (s.findCycle fun r => r.phi1 == .r)
  | 0x1 => s.atCycle (s.findCycle fun r => r.phi1 == .i)
  | 0x3 => s.atCycle (s.findCycle fun r => r.phi1 == .g)
  | 0x4 => s.atCycle (s.findCycle fun r => match r.phi1 with | .p _ => true | _ => false)
  | 0x6 => { s with vic := s.vic.allDma }.atCycle (s.findCycle fun r => match r.phi1 with | .s2 _ => true | _ => false)
  | 0xa => { s with vic := s.vic.asBadLine }.atCycle (s.findCycle fun r => r.phi2 == Phi2Slot.c)
  | 0xd => { s with vic := s.vic.allDma }.atCycle (s.findCycle fun r => match r.phi2 with | .s1 _ => true | _ => false)
  | 0xf => { s with vic := s.vic.allDma }.atCycle (s.findCycle fun r => match r.phi2 with | .s3 _ => true | _ => false)
  | _ => s

/-- The host access that presents an HV or HC word (R203, R301, R302). -/
def hostAccessOf (b : BusWord) : HostAccess :=
  let base : BitVec 16 :=
    match b.port with
    | .hc => if bit b.word 4 then 0xdd00 else 0xdc00
    | _ => 0xd000
  let offset : BitVec 16 :=
    match b.port with
    | .hc => (field b.word 0 4).setWidth 16
    | _ => (field b.word 0 6).setWidth 16
  let read :=
    match b.port with
    | .hc => bit b.word 5
    | _ => bit b.word 6
  if read then .ioRead (base ||| offset) else .ioWrite (base ||| offset) b.data

/-- The drive access that presents a DV word (R205, R303). -/
def driveAccessOf (b : BusWord) : DriveAccess :=
  let addr : BitVec 16 := (if bit b.word 4 then 0x1c00 else 0x1800) ||| (field b.word 0 4).setWidth 16
  if bit b.word 5 then .read addr else .write addr b.data

/-- The word is what the next cycle takes from its port. -/
def State.present (s : State) (b : BusWord) : State :=
  match b.port with
  | .hv => s.presentHost (hostAccessOf b)
  | .hc => s.presentHost (hostAccessOf b)
  | .dv => s.presentDrive (driveAccessOf b)
  | .va => s.presentVic b.word

/-- The table word `w` of `nbits` bits, read in the format `tablePort` gives it, with a data byte of 0. -/
def State.presentTableWord (s : State) (nbits w : Nat) : State :=
  match tablePort nbits with
  | none => s
  | some p => s.present ⟨p, BitVec.ofNat 8 w, 0⟩

end Sys2Proof.Machine
end

