-- ==== Sys2Proof/Machine/Step.lean ====
section
/-!
DEFINITION. One step is one system cycle (spec/40_clock_bus.md R400, R442), with the host operations due before it (R440). The block
fetches no instructions (R216): the operations it runs are those the two CPUs and the VIC present in the cycle.
-/

namespace Sys2Proof.Machine

/-- The step. -/
def step (s : State) : Host.Outcome State Fault Refusal := stepWith exec s

/-- The word placed where the next step takes it from its port (notes/assumptions/1.md, notes/assumptions/2.md). -/
def State.withFetchWord (s : State) (nbits w : Nat) : State := s.presentTableWord nbits w

end Sys2Proof.Machine
end

