-- ==== Sys2Proof/Safety.lean ====
section
/-!
DEFINITION. The terms claims are stated in: the invariants of the block, the conditions under which a cycle runs to its end, the
raster position, and runs.
-/

namespace Sys2Proof.Machine

/-! ### Memories -/

/-- The five memories of the state are in canonical form. -/
def State.memoriesCanonical (s : State) : Prop :=
  s.ram.wf ∧ s.colorRam.wf ∧ s.vic.screenBuffer1.wf ∧ s.vic.screenBuffer2.wf ∧ s.cfg.colorRamInit.wf

/-- A waiting `configure` brings a canonical `ColorRamInit`. -/
def HostOp.canonical : HostOp → Prop
  | .configure r => r.rest.colorRamInit.wf
  | _ => True

/-- The memories, and those a waiting operation may bring, are in canonical form. -/
def State.MemoryInv (s : State) : Prop := s.memoriesCanonical ∧ ∀ x ∈ s.hostOps, x.2.canonical

/-! ### Chips -/

/-- R111, R112: the port outputs follow from the latches and directions, bit 4 of both control registers is stored as 0, and the
unused bits of ICR and IMR are 0. -/
def Cia.regular (x : Cia) : Prop :=
  x.pa = x.paLatch ||| ~~~ x.ddra ∧ x.pb = x.pbLatch ||| ~~~ x.ddrb ∧ bit x.cra 4 = false ∧ bit x.crb 4 = false ∧
    x.icr &&& 0x60 = 0 ∧ x.imr &&& 0xe0 = 0

def State.CiaInv (s : State) : Prop := s.cia1.regular ∧ s.cia2.regular

/-- R502, R503: no pipeline bit is set outside the defined stages, and only sticky stages are fed. -/
def Cia.pipelineDefined (x : Cia) : Prop := x.delay &&& ~~~ definedStages = 0 ∧ x.feed &&& ~~~ stickyStages = 0

def State.PipelineInv (s : State) : Prop := s.cia1.pipelineDefined ∧ s.cia2.pipelineDefined

/-- R1300: each chip pulls its interrupt line exactly while its condition is true. -/
def State.LineInv (s : State) : Prop :=
  s.lines.irqVic = vicIrqCondition s.vic.irr s.vic.imr ∧ s.lines.irqCia1 = s.cia1.int ∧ s.lines.nmiCia2 = s.cia2.int ∧
    s.lines.driveIrqVia1 = viaIrqCondition s.via1 ∧ s.lines.driveIrqVia2 = viaIrqCondition s.via2

/-- R101, R102, R111: the bits a register does not have are 0, on the VIC's side and on the VIAs'. -/
def State.UnusedBitsInv (s : State) : Prop :=
  s.vic.irr &&& 0xf0 = 0 ∧ s.vic.imr &&& 0xf0 = 0 ∧ s.vic.reg.cr2 &&& 0xc0 = 0 ∧ s.vic.reg.memptr &&& 0x01 = 0 ∧
    bit s.via1.ifr 7 = false ∧ bit s.via1.ier 7 = false ∧ bit s.via2.ifr 7 = false ∧ bit s.via2.ier 7 = false

/-! ### VIC -/

/-- R811: a sprite whose Y-expansion bit is 0 has its flip-flop set. -/
def State.ExpansionInv (s : State) : Prop :=
  ∀ n, n < 8 → bit s.vic.reg.mxye n = false → (s.vic.sprites.get n).expansionFF = true

/-- R725. -/
def State.DisplayInv (s : State) : Prop := s.vic.badLine = true → s.vic.displayState = true

/-- No `configure` waits: R10 has the parameters fixed for a run. -/
def HostOp.isConfigure : HostOp → Bool
  | .configure _ => true
  | _ => false

def State.configFixed (s : State) : Prop := ∀ x ∈ s.hostOps, x.2.isConfigure = false

/-- R102, R403: the raster position is one of the frame's. -/
def State.positionInRange (s : State) : Prop :=
  1 ≤ s.vic.rasterCycle ∧ s.vic.rasterCycle ≤ cyclesPerLine s.cfg ∧ s.vic.yCounter.toNat < linesPerFrame s.cfg

def State.RasterInv (s : State) : Prop := s.positionInRange ∧ s.configFixed

/-- R11, R403: the number of cycles since the first of the frame. -/
def State.framePosition (s : State) : Nat := s.vic.yCounter.toNat * cyclesPerLine s.cfg + (s.vic.rasterCycle - 1)

/-! ### Drive -/

/-- R1110, R1112, R1104, R1130: the bit timer is in its range, the byte counter is 0 under a SYNC mark, and zone and stepper phase are
those VIA2's port B gives. -/
def State.HeadInv (s : State) : Prop :=
  -3 ≤ s.head.bitReadyTimer.toInt ∧ s.head.bitReadyTimer.toInt ≤ 16 ∧ (s.head.sync = true → s.head.byteReadyCounter = 0) ∧
    s.head.zone = zoneOf (viaPbOut s.via2) ∧ s.head.stepperPhase = field (viaPbOut s.via2) 0 2

/-- R420: less than one drive cycle is left over. -/
def State.DriveTimeInv (s : State) : Prop := 0 ≤ s.driveTimeAcc.toInt ∧ s.driveTimeAcc.toInt < driveCyclePs.toInt

/-! ### Runs -/

/-- R1302: nothing this cycle does is outside the spec: a PAL run (R702), no illegal mode on a 65xx chip (R306). -/
def State.cycleDefined (s : State) : Prop :=
  s.cfg.vicRevision = .pal6569 ∧ (s.cfg.vic85xx = true ∨ s.vic.reg.illegalMode = false)

/-- R1301: no diagnostic was raised. -/
def State.undisturbed (s : State) : Prop := s.diagnosed = false

/-- n ticks of a CIA (R520). -/
def Cia.ticks : Nat → Cia → Cia
  | 0, x => x
  | n + 1, x => (Cia.ticks n x).tick

/-- n ticks of a VIA with the levels outside it held (R1020), those of its unconnected lines at the host's pins. -/
def Via.ticks (paIn pbIn : Byte) (ca1In : Bool) : Nat → Via → Via
  | 0, x => x
  | n + 1, x => (Via.ticks paIn pbIn ca1In n x).tick paIn pbIn ca1In x.hostPins

/-- The bits passing under the head, one after another (R1111). -/
def State.takeBits (s : State) (bits : List Bool) : State := bits.foldl State.takeBit s

/-- n pixels of a sprite with the registers held (R851): what each shows, the first pixel first. -/
def Sprite.shifts (r : VicRegs) (n : Nat) : Nat → Sprite → Sprite × List (BitVec 2)
  | 0, p => (p, [])
  | k + 1, p =>
    let a := Sprite.shifts r n k p
    let b := a.1.shift r n
    (b.1, a.2 ++ [b.2])

/-! ### Time of day -/

/-- The number a BCD byte stands for. -/
def bcdValue (x : Byte) : Nat := (field x 4 4).toNat * 10 + (field x 0 4).toNat

/-- A time of day in BCD (R113): tenths 0..9, seconds and minutes 00..59, hours 01..12 with PM in bit 7. -/
def TodTime.valid (t : TodTime) : Prop :=
  t.tenth.toNat < 10 ∧ (field t.sec 0 4).toNat < 10 ∧ (field t.sec 4 4).toNat < 6 ∧ (field t.min 0 4).toNat < 10 ∧
    (field t.min 4 4).toNat < 6 ∧ t.hour &&& 0x60 = 0 ∧ (field t.hour 0 4).toNat < 10 ∧
    1 ≤ bcdValue (t.hour &&& 0x1f) ∧ bcdValue (t.hour &&& 0x1f) ≤ 12

/-- The tenths of a second since midnight (12 AM). -/
def TodTime.tenths (t : TodTime) : Nat :=
  (((bcdValue (t.hour &&& 0x1f) % 12 + if bit t.hour 7 then 12 else 0) * 60 + bcdValue t.min) * 60 + bcdValue t.sec) * 10 + t.tenth.toNat

/-! ### Bus operations -/

/-- The port an operation is presented on. -/
def portOf (i : Instr) : Port := (encode i).port

/-- A word whose data byte the operation takes: a write (R301-R303). -/
def carriesData (b : BusWord) : Bool :=
  match b.port with
  | .hv => !(bit b.word 6)
  | .hc => !(bit b.word 5)
  | .dv => !(bit b.word 5)
  | .va => false

/-- R304: the half and kind combinations that are reserved: phi1 with c, s1, s3 and phi2 with r, i, g, p, s2. -/
def reservedVicWord (w : Byte) : Bool := w == 0x2 || w == 0x5 || w == 0x7 || w == 0x8 || w == 0x9 || w == 0xb || w == 0xc || w == 0xe

/-! ### The head -/

/-- Every half-track has bits. -/
def Disk.tracksNonempty (d : Disk) : Prop := d.tracks.length = 84 ∧ ∀ t ∈ d.tracks, 0 < t.length

def configTracksNonempty (c : Config) : Prop := c.trackBits.length = 84 ∧ (0 : BitVec 16) ∉ c.trackBits

/-- A waiting operation brings no half-track of length 0 (R1160). -/
def HostOp.tracksNonempty : HostOp → Prop
  | .configure r => configTracksNonempty r.rest
  | .insertDisk image => ∀ tracks wp, image.surface = some (tracks, wp) → tracks.length = 84 ∧ ∀ t ∈ tracks, 0 < t.length
  | _ => True

/-- R116, R1131: the bit offset is one of the half-track under the head. -/
def State.OffsetInv (s : State) : Prop :=
  configTracksNonempty s.cfg ∧ s.disk.tracksNonempty ∧ s.head.bitoffset.toNat < s.disk.trackLength s.head.halftrack ∧
    ∀ x ∈ s.hostOps, x.2.tracksNonempty

end Sys2Proof.Machine
end

