-- ==== Sys2Proof/Certificates/Slice0/Obligations.lean ====
section
/-!
DEFINITION. The statements for the provers, in the order of the spec: register accesses (HV, HC, DV), the VIC's own accesses (VA),
encodings, the step, invariants, the chips' clocks. Each docstring names the rules; OBLIGATIONS.json says which are stated whole.
-/

open Sys2Proof Sys2Proof.Machine

/-! ### Host CPU to VIC-II (42_vic_registers.md) -/

/-- R601, R603, R605, R615, R619: reads of sprite coordinates, enables and expansions; only the host data bus changes. -/
def Obligations.VicSpriteReads : Prop := ∀ s : State,
  (∀ n, n < 8 → exec (.rVicMnX n) s = .next { s with hostData := field (s.vic.reg.mxX.get n) 0 8 }) ∧
  (∀ n, n < 8 → exec (.rVicMnY n) s = .next { s with hostData := s.vic.reg.mxY.get n }) ∧
  (∃ b : Byte, exec .rVicMsbx s = .next { s with hostData := b } ∧ ∀ n, n < 8 → bit b n = bit (s.vic.reg.mxX.get n) 8) ∧
  exec .rVicMxe s = .next { s with hostData := s.vic.reg.mxe } ∧
  exec .rVicMxye s = .next { s with hostData := s.vic.reg.mxye }

/-- R607, R609, R617, R621, R623, R625, R627, R629, R633: reads of control, raster, interrupt and attribute registers, the unused bits as
1; only the host data bus changes. -/
def Obligations.VicControlReads : Prop := ∀ s : State,
  exec .rVicCr1 s = .next { s with hostData := (if bit s.vic.yCounter 8 then 0x80 else 0x00) ||| (s.vic.reg.cr1 &&& 0x7f) } ∧
  exec .rVicRaster s = .next { s with hostData := field s.vic.yCounter 0 8 } ∧
  exec .rVicCr2 s = .next { s with hostData := s.vic.reg.cr2 ||| 0xc0 } ∧
  exec .rVicMemptr s = .next { s with hostData := s.vic.reg.memptr ||| 0x01 } ∧
  exec .rVicIrr s = .next { s with hostData :=
    (if s.vic.irr &&& s.vic.imr &&& 0x0f = 0 then 0x00 else 0x80) ||| 0x70 ||| (s.vic.irr &&& 0x0f) } ∧
  exec .rVicImr s = .next { s with hostData := s.vic.imr ||| 0xf0 } ∧
  exec .rVicMxdp s = .next { s with hostData := s.vic.reg.mxdp } ∧
  exec .rVicMxmc s = .next { s with hostData := s.vic.reg.mxmc } ∧
  exec .rVicMxxe s = .next { s with hostData := s.vic.reg.mxxe }

/-- R640, R642, R644, R646, R650: reads of the colours, whose upper four bits read 1, and of the unused offsets, which read 0xFF. -/
def Obligations.VicColourReads : Prop := ∀ s : State,
  (∀ p ∈ [(Instr.rVicEc, s.vic.reg.ec), (.rVicB0c, s.vic.reg.b0c), (.rVicB1c, s.vic.reg.b1c), (.rVicB2c, s.vic.reg.b2c),
      (.rVicB3c, s.vic.reg.b3c), (.rVicMm0, s.vic.reg.mm0), (.rVicMm1, s.vic.reg.mm1), (.rVicM0c, s.vic.reg.mxc.get 0),
      (.rVicM1c, s.vic.reg.mxc.get 1), (.rVicM2c, s.vic.reg.mxc.get 2), (.rVicM3c, s.vic.reg.mxc.get 3),
      (.rVicM4c, s.vic.reg.mxc.get 4), (.rVicM5c, s.vic.reg.mxc.get 5), (.rVicM6c, s.vic.reg.mxc.get 6),
      (.rVicM7c, s.vic.reg.mxc.get 7)],
    exec p.1 s = .next { s with hostData := p.2.setWidth 8 ||| 0xf0 }) ∧
  (∀ i ∈ [Instr.rVicUnused2F, .rVicUnused30, .rVicUnused31, .rVicUnused32, .rVicUnused33, .rVicUnused34, .rVicUnused35,
      .rVicUnused36, .rVicUnused37, .rVicUnused38, .rVicUnused39, .rVicUnused3A, .rVicUnused3B, .rVicUnused3C, .rVicUnused3D,
      .rVicUnused3E, .rVicUnused3F],
    exec i s = .next { s with hostData := 0xff })

/-- R630, R631: a read of a collision register returns it and clears it; `irr` and everything else stay. -/
def Obligations.VicCollisionReads : Prop := ∀ s : State,
  exec .rVicMm s = .next { s with
    hostData := s.vic.spriteSpriteCollision
    vic := { s.vic with spriteSpriteCollision := 0 } } ∧
  exec .rVicMd s = .next { s with
    hostData := s.vic.spriteBackgroundCollision
    vic := { s.vic with spriteBackgroundCollision := 0 } }

/-- R611, R613, R662, which the spec marks as its decision D35: the light pen's latches, and the edge that fills them. -/
def Obligations.VicLightPen : Prop := ∀ s : State,
  exec .rVicLpx s = .next { s with hostData := s.vic.lpx } ∧
  exec .rVicLpy s = .next { s with hostData := s.vic.lpy } ∧
  (∀ level, ¬ (s.vic.lpPin = true ∧ level = false ∧ s.vic.lpTriggeredThisFrame = false) →
    applyHostOp (.setLightPen level) s = .next { s with vic := { s.vic with lpPin := level } }) ∧
  (s.vic.lpPin = true → s.vic.lpTriggeredThisFrame = false →
    applyHostOp (.setLightPen false) s = .next { s with
      vic := { s.vic with
        lpx := field s.vic.xCounter 1 8
        lpy := field s.vic.yCounter 0 8
        lpTriggeredThisFrame := true
        irr := s.vic.irr ||| 0x08
        lpPin := false }
      lines := { s.lines with irqVic := decide ((s.vic.irr ||| 0x08) &&& s.vic.imr &&& 0x0f ≠ 0) } })

/-- R602, R604, R606: a write of a sprite coordinate changes that coordinate alone, in the bits the register holds. -/
def Obligations.VicCoordinateWrites : Prop := ∀ (s : State) (d : Byte),
  (∀ n, n < 8 → ∃ r, exec (.wVicMnX n d) s = .next (s.writeVicReg r) ∧
    field (r.mxX.get n) 0 8 = d ∧ bit (r.mxX.get n) 8 = bit (s.vic.reg.mxX.get n) 8 ∧
    (∀ m, m < 8 → m ≠ n → r.mxX.get m = s.vic.reg.mxX.get m) ∧ { r with mxX := s.vic.reg.mxX } = s.vic.reg) ∧
  (∀ n, n < 8 → ∃ r, exec (.wVicMnY n d) s = .next (s.writeVicReg r) ∧
    r.mxY.get n = d ∧ (∀ m, m < 8 → m ≠ n → r.mxY.get m = s.vic.reg.mxY.get m) ∧ { r with mxY := s.vic.reg.mxY } = s.vic.reg) ∧
  (∃ r, exec (.wVicMsbx d) s = .next (s.writeVicReg r) ∧
    (∀ n, n < 8 → bit (r.mxX.get n) 8 = bit d n ∧ field (r.mxX.get n) 0 8 = field (s.vic.reg.mxX.get n) 0 8) ∧
    { r with mxX := s.vic.reg.mxX } = s.vic.reg)

/-- R616, R618, R622, R628, R632, R634, R641, R643, R645, R647: writes of enables, control 2, memory pointers, sprite attributes and
colours; a colour keeps its low four bits. -/
def Obligations.VicPlainWrites : Prop := ∀ (s : State) (d : Byte), let c : Nibble := d.setWidth 4; let r := s.vic.reg
  ∀ q ∈ [(Instr.wVicMxe d, { r with mxe := d }), (.wVicCr2 d, { r with cr2 := d &&& 0x3f }),
      (.wVicMemptr d, { r with memptr := d &&& 0xfe }), (.wVicMxdp d, { r with mxdp := d }), (.wVicMxmc d, { r with mxmc := d }),
      (.wVicMxxe d, { r with mxxe := d }), (.wVicEc d, { r with ec := c }), (.wVicB0c d, { r with b0c := c }),
      (.wVicB1c d, { r with b1c := c }), (.wVicB2c d, { r with b2c := c }), (.wVicB3c d, { r with b3c := c }),
      (.wVicMm0 d, { r with mm0 := c }), (.wVicMm1 d, { r with mm1 := c }), (.wVicM0c d, { r with mxc := { r.mxc with e0 := c } }),
      (.wVicM1c d, { r with mxc := { r.mxc with e1 := c } }), (.wVicM2c d, { r with mxc := { r.mxc with e2 := c } }),
      (.wVicM3c d, { r with mxc := { r.mxc with e3 := c } }), (.wVicM4c d, { r with mxc := { r.mxc with e4 := c } }),
      (.wVicM5c d, { r with mxc := { r.mxc with e5 := c } }), (.wVicM6c d, { r with mxc := { r.mxc with e6 := c } }),
      (.wVicM7c d, { r with mxc := { r.mxc with e7 := c } })],
    exec q.1 s = .next (s.writeVicReg q.2)

/-- R110, R600, which leave the delayed fields a parameter (decision D5; notes/assumptions/10.md): what `writeVicReg` of the statements
above changes. In every register a delayed bit keeps its old value until the end of the VIC's step, any other has the new one at once. -/
def Obligations.VicDelayedRegisters : Prop := ∀ (s : State) (r : VicRegs),
  let kept : ∀ {w : Nat}, BitVec w → BitVec w → BitVec w → BitVec w → Prop :=
    fun mask old new q => ∀ k, bit q k = if bit mask k then bit old k else bit new k
  let m := s.cfg.delayMask
  let d := s.vic.regDelayed
  (∃ q, s.writeVicReg r = { s with vic := { s.vic with reg := r, regDelayed := q } } ∧
    (∀ n, n < 8 → kept (m.mxX.get n) (d.mxX.get n) (r.mxX.get n) (q.mxX.get n)) ∧
    (∀ n, n < 8 → kept (m.mxY.get n) (d.mxY.get n) (r.mxY.get n) (q.mxY.get n)) ∧
    (∀ n, n < 8 → kept (m.mxc.get n) (d.mxc.get n) (r.mxc.get n) (q.mxc.get n)) ∧
    kept m.cr1 d.cr1 r.cr1 q.cr1 ∧ kept m.mxe d.mxe r.mxe q.mxe ∧ kept m.cr2 d.cr2 r.cr2 q.cr2 ∧
    kept m.mxye d.mxye r.mxye q.mxye ∧ kept m.memptr d.memptr r.memptr q.memptr ∧ kept m.mxdp d.mxdp r.mxdp q.mxdp ∧
    kept m.mxmc d.mxmc r.mxmc q.mxmc ∧ kept m.mxxe d.mxxe r.mxxe q.mxxe ∧ kept m.ec d.ec r.ec q.ec ∧
    kept m.b0c d.b0c r.b0c q.b0c ∧ kept m.b1c d.b1c r.b1c q.b1c ∧ kept m.b2c d.b2c r.b2c q.b2c ∧ kept m.b3c d.b3c r.b3c q.b3c ∧
    kept m.mm0 d.mm0 r.mm0 q.mm0 ∧ kept m.mm1 d.mm1 r.mm1 q.mm1) ∧
  (s.cfg.delayMask = VicRegs.zero → (s.writeVicReg r).vic.regDelayed = r) ∧
  s.vicAfterAccess.vic.regDelayed = s.vic.reg

/-- R612, R614, R635, R636, R651: writes of read-only registers and of unused offsets change nothing. -/
def Obligations.VicIgnoredWrites : Prop := ∀ (s : State) (d : Byte),
  ∀ i ∈ [Instr.wVicLpx d, .wVicLpy d, .wVicMm d, .wVicMd d, .wVicUnused2F d, .wVicUnused30 d, .wVicUnused31 d, .wVicUnused32 d,
      .wVicUnused33 d, .wVicUnused34 d, .wVicUnused35 d, .wVicUnused36 d, .wVicUnused37 d, .wVicUnused38 d, .wVicUnused39 d,
      .wVicUnused3A d, .wVicUnused3B d, .wVicUnused3C d, .wVicUnused3D d, .wVicUnused3E d, .wVicUnused3F d],
    exec i s = .next s

/-- R624, R626 with R660: writing 1 acknowledges, a mask is four bits, and the line follows at once. -/
def Obligations.VicInterruptWrites : Prop := ∀ (s : State) (d : Byte),
  exec (.wVicIrr d) s = .next { s with
    vic := { s.vic with irr := s.vic.irr &&& ~~~ (d &&& 0x0f) }
    lines := { s.lines with irqVic := decide (s.vic.irr &&& ~~~ (d &&& 0x0f) &&& s.vic.imr &&& 0x0f ≠ 0) } } ∧
  exec (.wVicImr d) s = .next { s with
    vic := { s.vic with imr := d &&& 0x0f }
    lines := { s.lines with irqVic := decide (s.vic.irr &&& (d &&& 0x0f) &&& 0x0f ≠ 0) } }

/-- R620: a write of MxYE sets the flip-flop of every sprite whose bit is 0, and leaves the others. -/
def Obligations.VicExpansionWrite : Prop := ∀ (s : State) (d : Byte),
  ∃ q, exec (.wVicMxye d) s =
      .next { s.writeVicReg { s.vic.reg with mxye := d } with
        vic := { (s.writeVicReg { s.vic.reg with mxye := d }).vic with sprites := q } } ∧
    ∀ n, n < 8 → q.get n = { s.vic.sprites.get n with expansionFF := (s.vic.sprites.get n).expansionFF || !(bit d n) }

/-- R608, R610, R761, which the spec marks as its decision D9: a write of the compare line is compared at once where the line's compare
cycle has passed; a new match raises bit 0 of `irr` and the line. CR1 is also stored, its delayed copy as VicDelayedRegisters says; a
write of RASTER leaves the registers and their delayed copies. -/
def Obligations.VicRasterWrites : Prop := ∀ (s : State) (d : Byte),
  let written : VicRegs → VicRegs → BitVec 9 → State := fun reg delayed line =>
    let passed := s.vic.yCounter ≠ 0 ∨ 2 ≤ s.vic.rasterCycle
    let m := s.vic.yCounter.toNat = line.toNat
    let fires := passed ∧ m ∧ s.vic.rasterMatchLatched = false
    let irr := if fires then s.vic.irr ||| 0x01 else s.vic.irr
    { s with
      lines := if fires then { s.lines with irqVic := decide (irr &&& s.vic.imr &&& 0x0f ≠ 0) } else s.lines
      vic := { s.vic with
        reg := reg
        regDelayed := delayed
        rasterIrqLine := line
        irr := irr
        rasterMatchLatched := if passed then decide m else s.vic.rasterMatchLatched } }
  let cr1 := { s.vic.reg with cr1 := d }
  exec (.wVicCr1 d) s =
    .next (written cr1 (s.writeVicReg cr1).vic.regDelayed (field d 7 1 ++ field s.vic.rasterIrqLine 0 8)) ∧
  exec (.wVicRaster d) s = .next (written s.vic.reg s.vic.regDelayed (field s.vic.rasterIrqLine 8 1 ++ d))

/-! ### Host CPU to the CIAs (41_cia.md) -/

/-- R514, R516, R519, R533: plain reads of a CIA; only the host data bus changes. Bit 4 of a control register reads 0. -/
def Obligations.CiaPlainReads : Prop := ∀ (s : State) (c : CiaId), let x := s.cia c
  exec (.rCiaDdra c) s = .next { s with hostData := x.ddra } ∧
  exec (.rCiaDdrb c) s = .next { s with hostData := x.ddrb } ∧
  exec (.rCiaTaLo c) s = .next { s with hostData := field x.counterA 0 8 } ∧
  exec (.rCiaTaHi c) s = .next { s with hostData := field x.counterA 8 8 } ∧
  exec (.rCiaTbLo c) s = .next { s with hostData := field x.counterB 0 8 } ∧
  exec (.rCiaTbHi c) s = .next { s with hostData := field x.counterB 8 8 } ∧
  exec (.rCiaCra c) s = .next { s with hostData := x.cra &&& 0xef } ∧
  exec (.rCiaCrb c) s = .next { s with hostData := x.crb &&& 0xef } ∧
  exec (.rCiaSdr c) s = .next { s with hostData := x.sdr }

/-- R510, R512, R1201, which the spec marks as its decision D18: a port read is what the chip drives (`regular`: latch or not direction)
and what lies outside; CIA2 reads the IEC lines in bits 6 and 7; the timer outputs override PB6 and PB7. -/
def Obligations.CiaPortReads : Prop := ∀ (s : State) (c : CiaId), (s.cia c).regular → let x := s.cia c
  (∃ b : Byte, exec (.rCiaPra c) s = .next { s with hostData := b } ∧
    ∀ k, k < 8 → bit b k = ((bit x.paLatch k || !(bit x.ddra k)) &&
      (if c = .cia2 ∧ k = 6 then s.iec.clkLine else if c = .cia2 ∧ k = 7 then s.iec.dataLine else bit x.extPA k))) ∧
  (∃ b : Byte, exec (.rCiaPrb c) s = .next { s with hostData := b } ∧
    ∀ k, k < 8 → bit b k =
      if k = 6 ∧ bit x.cra 1 = true then x.pb6Out
      else if k = 7 ∧ bit x.crb 1 = true then x.pb7Out
      else (bit x.pbLatch k || !(bit x.ddrb k)) && bit x.extPB k)

/-- R511, R513, R515, R517: writes of ports, directions and the low halves of the latches. A write to CIA2's port A makes the IEC lines
dirty, is told to the host and selects the VIC's bank. -/
def Obligations.CiaPortWrites : Prop := ∀ (s : State) (d : Byte),
  exec (.wCiaPra .cia1 d) s = .next { s with cia1 := { s.cia1 with paLatch := d, pa := d ||| ~~~ s.cia1.ddra } } ∧
  exec (.wCiaDdra .cia1 d) s = .next { s with cia1 := { s.cia1 with ddra := d, pa := s.cia1.paLatch ||| ~~~ d } } ∧
  (∃ t, exec (.wCiaPra .cia2 d) s = .next t ∧
    t = { s with
      cia2 := { s.cia2 with paLatch := d, pa := d ||| ~~~ s.cia2.ddra }
      iec := { s.iec with dirtyC64 := true, ciaPins := (d ||| ~~~ s.cia2.ddra, s.cia2.ddra) } } ∧
    t.vicBank = 3 - (d ||| ~~~ s.cia2.ddra).toNat % 4) ∧
  exec (.wCiaDdra .cia2 d) s = .next { s with
    cia2 := { s.cia2 with ddra := d, pa := s.cia2.paLatch ||| ~~~ d }
    iec := { s.iec with dirtyC64 := true, ciaPins := (s.cia2.paLatch ||| ~~~ d, d) } } ∧
  ∀ c, let x := s.cia c
    exec (.wCiaPrb c d) s = .next (s.setCia c { x with pbLatch := d, pb := d ||| ~~~ x.ddrb }) ∧
    exec (.wCiaDdrb c d) s = .next (s.setCia c { x with ddrb := d, pb := x.pbLatch ||| ~~~ d }) ∧
    exec (.wCiaTaLo c d) s = .next (s.setCia c { x with latchA := field x.latchA 8 8 ++ d }) ∧
    exec (.wCiaTbLo c d) s = .next (s.setCia c { x with latchB := field x.latchB 8 8 ++ d })

/-- R518, R534, which the spec marks as its decisions D13 and D15: the high half of a latch, which loads a stopped timer two ticks later,
and the serial data register, which starts a transmission in output mode. -/
def Obligations.CiaTimerHighAndSerialWrites : Prop := ∀ (s : State) (c : CiaId) (d : Byte), let x := s.cia c
  exec (.wCiaTaHi c d) s = .next (s.setCia c { x with
    latchA := d ++ field x.latchA 0 8
    delay := if bit x.cra 0 then x.delay else x.delay ||| 0x100 }) ∧
  exec (.wCiaTbHi c d) s = .next (s.setCia c { x with
    latchB := d ++ field x.latchB 0 8
    delay := if bit x.crb 0 then x.delay else x.delay ||| 0x800 }) ∧
  exec (.wCiaSdr c d) s = .next (s.setCia c { x with
    sdr := d
    delay := if bit x.cra 6 then x.delay ||| 0x200000000 else x.delay })

/-- R544, R546, which the spec marks as its decision D12: what a write of a control register does to the pipeline, the timer outputs and
the serial port; bit 4 is a strobe and is stored as 0. -/
def Obligations.CiaControlWrites : Prop := ∀ (s : State) (c : CiaId) (d : Byte), let x := s.cia c
  (∃ y, exec (.wCiaCra c d) s = .next (s.setCia c y) ∧ y.cra = d &&& 0xef ∧
    (let on := bit d 0 && !(bit d 5)
     (∀ k, bit y.delay k =
        if k = 0 ∨ k = 1 then on else if k = 20 then bit d 3 else bit x.delay k || (k == 8 && bit d 4)) ∧
     (∀ k, bit y.feed k = if k = 0 then on else if k = 20 then bit d 3 else bit x.feed k)) ∧
    y.pb6Out = (x.pb6Out || (bit d 0 && !(bit x.cra 0) && bit d 2)) ∧
    (bit d 6 = bit x.cra 6 → y.serCounter = x.serCounter ∧ y.sdrPending = x.sdrPending ∧ y.serClk = x.serClk) ∧
    (bit d 6 ≠ bit x.cra 6 → y.serCounter = 0 ∧ y.sdrPending = false ∧ y.serClk = true) ∧
    y = { x with cra := y.cra, delay := y.delay, feed := y.feed, pb6Out := y.pb6Out, serCounter := y.serCounter
                 sdrPending := y.sdrPending, serClk := y.serClk }) ∧
  (∃ y, exec (.wCiaCrb c d) s = .next (s.setCia c y) ∧ y.crb = d &&& 0xef ∧
    (let on := bit d 0 && !(bit d 5) && !(bit d 6)
     (∀ k, bit y.delay k =
        if k = 4 ∨ k = 5 then on else if k = 21 then bit d 3 else bit x.delay k || (k == 11 && bit d 4)) ∧
     (∀ k, bit y.feed k = if k = 4 then on else if k = 21 then bit d 3 else bit x.feed k)) ∧
    y.pb7Out = (x.pb7Out || (bit d 0 && !(bit x.crb 0) && bit d 2)) ∧
    y = { x with crb := y.crb, delay := y.delay, feed := y.feed, pb7Out := y.pb7Out })

/-- R530: a read of ICR returns the causes, releases the chip's line, discards its pending interrupt, clears bits 0..6 and schedules
ClearIcr0 and ReadIcr0. -/
def Obligations.CiaIcrRead : Prop := ∀ (s : State) (c : CiaId),
  ∃ y, exec (.rCiaIcr c) s = .next { (s.setCia c y) with
      hostData := (s.cia c).icr &&& 0x9f
      lines := match c with
        | .cia1 => { s.lines with irqCia1 := false }
        | .cia2 => { s.lines with nmiCia2 := false } } ∧
    y.int = false ∧ y.icr = (s.cia c).icr &&& 0x80 ∧
    (∀ k, bit y.delay k = if k = 18 ∨ k = 19 then false else bit (s.cia c).delay k || k == 24 || k == 22) ∧
    y = { s.cia c with int := y.int, icr := y.icr, delay := y.delay }

/-- R532, which the spec marks as its decision D14: a write of the mask sets or clears bits, cancels what no longer interrupts, and
schedules a newly unmasked cause; INT and the line stay. -/
def Obligations.CiaMaskWrite : Prop := ∀ (s : State) (c : CiaId) (d : Byte), let x := s.cia c
  ∃ y, exec (.wCiaIcr c d) s = .next (s.setCia c y) ∧
    (∀ k, k < 8 → bit y.imr k = if k < 5 ∧ bit d k = true then bit d 7 else bit x.imr k) ∧
    (x.icr &&& y.imr &&& 0x1f = 0 → ∀ k, bit y.delay k = (bit x.delay k && !([18, 19, 27, 28].contains k))) ∧
    (x.icr &&& y.imr &&& 0x1f ≠ 0 → x.int = false → ∀ k, bit y.delay k = (bit x.delay k || k == 18 || k == 27)) ∧
    (x.icr &&& y.imr &&& 0x1f ≠ 0 → x.int = true → y.delay = x.delay) ∧
    y = { x with imr := y.imr, delay := y.delay }

/-- R570-R578, which the spec marks as its decision D17: an hours read freezes the latch, a tenths read releases it, and reads of a frozen
clock come from the latch. CRB bit 7 sends a write to the alarm; an hours write of the time stops the clock and a tenths write restarts it;
12 o'clock is written with PM inverted; a time equal to the alarm schedules TODInt0. -/
def Obligations.TodAccesses : Prop := ∀ (s : State) (c : CiaId) (d : Byte), let x := s.cia c; let t := x.tod
  let alarmSet : Tod → Cia := fun q => { x with
    tod := q
    delay := if q.time = q.alarm then x.delay ||| 0x20000000 else x.delay }
  let hour : Byte := if d &&& 0x1f = 0x12 then (d ^^^ 0x80) &&& 0x9f else d &&& 0x9f
  exec (.rCiaTodHrs c) s = .next { (s.setCia c { x with tod := { t with
      latch := if t.latched then t.latch else t.time
      latched := true } }) with hostData := (if t.latched then t.latch else t.time).hour &&& 0x9f } ∧
  exec (.rCiaTodMin c) s = .next { s with hostData := (if t.latched then t.latch else t.time).min &&& 0x7f } ∧
  exec (.rCiaTodSec c) s = .next { s with hostData := (if t.latched then t.latch else t.time).sec &&& 0x7f } ∧
  exec (.rCiaTod10ths c) s = .next { (s.setCia c { x with tod := { t with latched := false } }) with
    hostData := (if t.latched then t.latch else t.time).tenth &&& 0x0f } ∧
  (bit x.crb 7 = true →
    exec (.wCiaTod10ths c d) s = .next (s.setCia c (alarmSet { t with alarm := { t.alarm with tenth := d &&& 0x0f } })) ∧
    exec (.wCiaTodSec c d) s = .next (s.setCia c (alarmSet { t with alarm := { t.alarm with sec := d &&& 0x7f } })) ∧
    exec (.wCiaTodMin c d) s = .next (s.setCia c (alarmSet { t with alarm := { t.alarm with min := d &&& 0x7f } })) ∧
    exec (.wCiaTodHrs c d) s = .next (s.setCia c (alarmSet { t with alarm := { t.alarm with hour := hour } }))) ∧
  (bit x.crb 7 = false →
    exec (.wCiaTod10ths c d) s = .next (s.setCia c (alarmSet { t with time := { t.time with tenth := d &&& 0x0f }, stopped := false })) ∧
    exec (.wCiaTodSec c d) s = .next (s.setCia c (alarmSet { t with time := { t.time with sec := d &&& 0x7f } })) ∧
    exec (.wCiaTodMin c d) s = .next (s.setCia c (alarmSet { t with time := { t.time with min := d &&& 0x7f } })) ∧
    exec (.wCiaTodHrs c d) s = .next (s.setCia c (alarmSet { t with time := { t.time with hour := hour }, stopped := true })))

/-! ### Drive CPU to the VIAs (46_via.md) -/

/-- R1008, R1010, R1014, R1016, R1018, R1026, R1032, R1034, R1036, R1038: reads of a VIA without side effect. -/
def Obligations.ViaPlainReads : Prop := ∀ (s : State) (v : ViaId), let x := s.via v
  exec (.rViaDdrb v) s = .next { s with driveData := x.ddrb } ∧
  exec (.rViaDdra v) s = .next { s with driveData := x.ddra } ∧
  exec (.rViaT1ch v) s = .next { s with driveData := field x.t1Counter 8 8 } ∧
  exec (.rViaT1ll v) s = .next { s with driveData := field x.t1Latch 0 8 } ∧
  exec (.rViaT1lh v) s = .next { s with driveData := field x.t1Latch 8 8 } ∧
  exec (.rViaT2ch v) s = .next { s with driveData := field x.t2Counter 8 8 } ∧
  exec (.rViaAcr v) s = .next { s with driveData := x.acr } ∧
  exec (.rViaPcr v) s = .next { s with driveData := x.pcr } ∧
  exec (.rViaIfr v) s = .next { s with driveData :=
    (x.ifr &&& 0x7f) ||| (if x.ifr &&& x.ier &&& 0x7f = 0 then 0x00 else 0x80) } ∧
  exec (.rViaIer v) s = .next { s with driveData := x.ier ||| 0x80 }

/-- R1006, R1012, R1024, R1030, R1042: reads that clear a flag, and the read of port A that clears none. The interrupt line follows the
flags (`viaAccess`, see ViaAccessEffect). CA2 goes low in handshake (100) and pulse (101) mode. -/
def Obligations.ViaFlagReads : Prop := ∀ (s : State) (v : ViaId), let x := s.via v
  let pins : Byte := if bit x.acr 0 then x.ira else match v with
    | .via1 => s.via1.extPA
    | .via2 => field s.head.readShiftreg 0 8
  let mode := field x.pcr 1 3
  exec (.rViaOra v) s = .next { s.viaAccess v { x with
      ifr := if mode = 1 ∨ mode = 3 then x.ifr &&& 0xfd else x.ifr &&& 0xfc
      ca2 := x.ca2 && mode != 4 && mode != 5
      ca2Pulse := x.ca2Pulse || mode == 5 } with driveData := (x.ora &&& x.ddra) ||| (pins &&& ~~~ x.ddra) } ∧
  exec (.rViaT1cl v) s = .next { s.viaAccess v { x with ifr := x.ifr &&& 0xbf } with driveData := field x.t1Counter 0 8 } ∧
  exec (.rViaT2cl v) s = .next { s.viaAccess v { x with ifr := x.ifr &&& 0xdf } with driveData := field x.t2Counter 0 8 } ∧
  exec (.rViaSr v) s = .next { s.viaAccess v { x with ifr := x.ifr &&& 0xfb } with driveData := x.sr } ∧
  exec (.rViaOraNh v) s = .next { s with driveData := (x.ora &&& x.ddra) ||| (pins &&& ~~~ x.ddra) }

/-- R1004, which the spec marks as its decision D21, with the wiring of R1002 and R1003 (D37): a read of port B. That bit 4 of
VIA2 reads 1 with no disk inserted is R1133's, where R1003 names only the protection (notes/assumptions/44.md). -/
def Obligations.ViaPortBRead : Prop := ∀ (s : State) (v : ViaId), let x := s.via v
  let wired : Nat → Bool := fun k => match v with
    | .via1 => match k with
      | 0 => !s.iec.dataLine
      | 2 => !s.iec.clkLine
      | 5 => s.cfg.deviceNumber == .nine
      | 6 => false
      | 7 => !s.iec.atnLine
      | k => bit s.via1.extPB k
    | .via2 => match k with
      | 4 => !(s.disk.inserted && s.disk.writeProtected && !s.head.changeSignal)
      | 7 => !s.head.sync
      | k => bit s.via2.extPB k
  let mode := field x.pcr 5 3
  ∃ b : Byte, exec (.rViaOrb v) s = .next { s.viaAccess v { x with
      ifr := if mode = 1 ∨ mode = 3 then x.ifr &&& 0xef else x.ifr &&& 0xe7 } with driveData := b } ∧
    ∀ k, k < 8 → bit b k =
      if k = 7 ∧ bit x.acr 7 = true then x.pb7T1Out
      else if bit x.ddrb k then bit x.orb k
      else if bit x.acr 1 then bit x.irb k else wired k

/-- R1005, R1007, R1009, R1011, R1013, R1017, R1019, R1025, R1027, R1043: writes of ports and directions, with the flags they clear and the
handshake of CA2 and CB2; writes of the timers' latches, and the write that loads and arms timer 2. -/
def Obligations.ViaPortAndTimerWrites : Prop := ∀ (s : State) (v : ViaId) (d : Byte), let x := s.via v
  let ma := field x.pcr 1 3
  let mb := field x.pcr 5 3
  exec (.wViaOrb v d) s = .next (s.viaAccess v { x with
    orb := d
    ifr := if mb = 1 ∨ mb = 3 then x.ifr &&& 0xef else x.ifr &&& 0xe7
    cb2 := x.cb2 && mb != 4 && mb != 5
    cb2Pulse := x.cb2Pulse || mb == 5 }) ∧
  exec (.wViaOra v d) s = .next (s.viaAccess v { x with
    ora := d
    ifr := if ma = 1 ∨ ma = 3 then x.ifr &&& 0xfd else x.ifr &&& 0xfc
    ca2 := x.ca2 && ma != 4 && ma != 5
    ca2Pulse := x.ca2Pulse || ma == 5 }) ∧
  exec (.wViaDdrb v d) s = .next (s.viaAccess v { x with ddrb := d }) ∧
  exec (.wViaDdra v d) s = .next (s.viaAccess v { x with ddra := d }) ∧
  exec (.wViaOraNh v d) s = .next (s.viaAccess v { x with ora := d }) ∧
  exec (.wViaT1cl v d) s = .next (s.viaAccess v { x with t1Latch := field x.t1Latch 8 8 ++ d }) ∧
  exec (.wViaT1ll v d) s = .next (s.viaAccess v { x with t1Latch := field x.t1Latch 8 8 ++ d }) ∧
  exec (.wViaT1lh v d) s = .next (s.viaAccess v { x with t1Latch := d ++ field x.t1Latch 0 8, ifr := x.ifr &&& 0xbf }) ∧
  exec (.wViaT2cl v d) s = .next (s.viaAccess v { x with t2LatchLo := d }) ∧
  exec (.wViaT2ch v d) s = .next (s.viaAccess v { x with t2Counter := d ++ x.t2LatchLo, t2Armed := true, ifr := x.ifr &&& 0xdf })

/-- R1015, R1031, R1033, which the spec marks as its decisions D19 and D20: the write that loads and arms timer 1, the shift register as a
latch, and the control register, whose shifting modes raise a diagnostic and have no other effect. -/
def Obligations.ViaTimerOneAndShiftWrites : Prop := ∀ (s : State) (v : ViaId) (d : Byte), let x := s.via v
  exec (.wViaT1ch v d) s = .next (s.viaAccess v { x with
    t1Latch := d ++ field x.t1Latch 0 8
    t1Counter := d ++ field x.t1Latch 0 8
    t1ReloadPending := false
    t1Armed := true
    ifr := x.ifr &&& 0xbf
    pb7T1Out := x.pb7T1Out && !(bit x.acr 7) }) ∧
  exec (.wViaSr v d) s = .next (s.viaAccess v { x with sr := d, ifr := x.ifr &&& 0xfb }) ∧
  (d &&& 0x1c = 0 → exec (.wViaAcr v d) s = .next (s.viaAccess v { x with acr := d })) ∧
  (d &&& 0x1c ≠ 0 → ∃ ms, exec (.wViaAcr v d) s = .next { s.viaAccess v { x with acr := d } with messages := ms, diagnosed := true } ∧
    ms.getLast? = some (.diagnostic .viaShiftModeUnsupported))

/-- R1035, R1037, R1039: writes of the peripheral control register, which sets the output lines, and of the interrupt flags and enables.
That a mode 000..011 leaves the stored level of its line is the model's choice (notes/assumptions/15.md): R1035 gives none. -/
def Obligations.ViaControlWrites : Prop := ∀ (s : State) (v : ViaId) (d : Byte), let x := s.via v
  let line : BitVec 3 → Bool → Bool := fun mode old => if mode = 6 then false else if 4 ≤ mode.toNat then true else old
  exec (.wViaPcr v d) s = .next (s.viaAccess v { x with
    pcr := d
    ca2 := line (field d 1 3) x.ca2
    cb2 := line (field d 5 3) x.cb2 }) ∧
  exec (.wViaIfr v d) s = .next (s.viaAccess v { x with ifr := x.ifr &&& ~~~ (d &&& 0x7f) }) ∧
  exec (.wViaIer v d) s = .next (s.viaAccess v { x with
    ier := if bit d 7 then x.ier ||| (d &&& 0x7f) else x.ier &&& ~~~ (d &&& 0x7f) })

/-- R1000, R1001, R1202, R1104, R1130, R1160, R1301 (decisions D22, D26, D27, D36): what `viaAccess` of the statements above changes beside
the chip: its interrupt line, and with a change of port B's output the dirty flag of the IEC lines (VIA1) or the head (VIA2). Where the head
moves, a bit offset outside its half-track is first recovered, with the diagnostic; that the step observes it so is the model's reading
(notes/assumptions/28.md). -/
def Obligations.ViaAccessEffect : Prop := ∀ (s : State) (x : Via),
  let out : Via → Byte := fun y => if bit y.acr 7 then withBit (y.orb ||| ~~~ y.ddrb) 7 y.pb7T1Out else y.orb ||| ~~~ y.ddrb
  let irq := decide (x.ifr &&& x.ier &&& 0x7f ≠ 0)
  let phase := field (out x) 0 2
  let moves := out x ≠ out s.via2 ∧ ((phase.toNat = (s.head.stepperPhase.toNat + 1) % 4 ∧ s.head.halftrack.val < 83) ∨
    (phase.toNat = (s.head.stepperPhase.toNat + 3) % 4 ∧ 0 < s.head.halftrack.val))
  let length := s.disk.trackLength s.head.halftrack
  let lost := moves ∧ length ≤ s.head.bitoffset.toNat
  let offset := if lost then BitVec.ofNat 16 (if length = 0 then 0 else s.head.bitoffset.toNat % length) else s.head.bitoffset
  s.viaAccess .via1 x = { s with
    via1 := x
    lines := { s.lines with driveIrqVia1 := irq }
    iec := { s.iec with dirtyDrive := s.iec.dirtyDrive || decide (out x ≠ out s.via1) } } ∧
  s.viaAccess .via2 x = { s with
    via2 := x
    lines := { s.lines with driveIrqVia2 := irq }
    head := if out x = out s.via2 then s.head else
      { (if phase = s.head.stepperPhase then s.head else stepHead s.disk { s.head with bitoffset := offset } phase) with
        zone := 3 - field (out x) 5 2 }
    messages := if lost then putMessage s.messages (.diagnostic .invariantViolation) else s.messages
    diagnosed := s.diagnosed || decide lost }

/-! ### The VIC's own accesses (43_vic_raster.md, 44_vic_sprites.md) -/

/-- R733, R734: the refresh and idle accesses; the byte read is discarded. -/
def Obligations.RefreshAndIdle : Prop := ∀ s : State,
  exec .vaR s = .next { s with
    vicAddr := 0x3f00 ||| s.vic.refreshCounter.setWidth 14
    vic := { s.vic with refreshCounter := s.vic.refreshCounter - 1 } } ∧
  exec .vaI s = .next { s with vicAddr := 0x3fff }

/-- R732: the graphics access, where the mode is legal or the chip is an 85xx: in display state it takes the line buffers' column and
advances `vc` and `vmli`; in idle state it reads 0x3FFF, or 0x39FF with ECM, and they stay. That a column beyond 39, which no buffer has,
reads as character and colour 0 is the model's choice (notes/assumptions/14.md). -/
def Obligations.GraphicsAccess : Prop := ∀ s : State,
  (s.cfg.vic85xx = true ∨ ¬ (s.vic.reg.ecm = true ∧ (s.vic.reg.bmm = true ∨ s.vic.reg.mcm = true))) →
  (s.vic.displayState = true →
    let ch := s.vic.videoMatrix.getD s.vic.vmli.toNat 0
    let col := s.vic.colorLine.getD s.vic.vmli.toNat 0
    let a := gAddress s.vic.reg ch s.vic.vc s.vic.rc
    exec .vaG s = .next { s with vicAddr := a, vic := { s.vic with
      vc := s.vic.vc + 1
      vmli := s.vic.vmli + 1
      gAccess := { s.vic.gAccess with
        v0 := (s.vicByte a).setWidth 32 ||| (ch.setWidth 32 <<< 8) ||| (col.setWidth 32 <<< 16) } } }) ∧
  (s.vic.displayState = false →
    let a : BitVec 14 := if s.vic.reg.ecm then 0x39ff else 0x3fff
    exec .vaG s = .next { s with vicAddr := a, vic := { s.vic with
      gAccess := { s.vic.gAccess with v0 := (s.vicByte a).setWidth 32 } } })

/-- R731, R742, R841, R843, which the spec marks as its decisions D10 and D11: the phi2 accesses. With BA low for three cycles they read
memory; otherwise the byte is a draw, a free value about which nothing is claimed (notes/assumptions/6.md). Everything else happens in
both cases. The model's choices are that a write of a column beyond 39, which no buffer has, is dropped (notes/assumptions/14.md), and that
the sprite is the one the cycle's table entry names for phi2, in both cycles of its slot (notes/assumptions/19.md). -/
def Obligations.Phi2Accesses : Prop := ∀ s : State,
  (∃ (b : Byte) (n : Nibble) (addr : BitVec 14) (k : Nat),
    exec .vaC s = .next { s with vicAddr := addr, draws := k, vic := { s.vic with
      videoMatrix := s.vic.videoMatrix.set s.vic.vmli.toNat b
      colorLine := s.vic.colorLine.set s.vic.vmli.toNat n } } ∧
    (s.vic.baLine.lowFor3 = true →
      addr = s.vic.reg.vm ++ s.vic.vc ∧ k = s.draws ∧ b = s.vicByte addr ∧ n = (s.colorRam.read s.vic.vc.toNat).setWidth 4) ∧
    (s.vic.baLine.lowFor3 = false → addr = s.vicAddr ∧ k = s.draws + 2)) ∧
  ∀ n, s.phi2Sprite = some n → ∀ q ∈ [(Instr.vaS1, fun (p : Sprite) (b : Byte) => { p with ssr := { p.ssr with chunk1 := b }, mc := p.mc + 1 }),
      (.vaS3, fun (p : Sprite) (b : Byte) => { p with ssr := { p.ssr with chunk3 := b }, mc := p.mc + 1 })],
    ∃ (b : Byte) (addr : BitVec 14) (k : Nat),
      exec q.1 s = .next { s with vicAddr := addr, draws := k, vic := { s.vic with
        sprites := s.vic.sprites.set n (q.2 (s.vic.sprites.get n) b) } } ∧
      (s.vic.baLine.lowFor3 = true →
        addr = sAddress (s.vic.sprites.get n).ptr (s.vic.sprites.get n).mc ∧ k = s.draws ∧ b = s.vicByte addr) ∧
      (s.vic.baLine.lowFor3 = false → addr = s.vicAddr ∧ k = s.draws + 1)

/-- R840, R842: the pointer access of cycle P(n), which the table schedules whatever the DMA, and the second sprite byte of cycle P(n)+1,
which it schedules while the DMA is on, else an idle access; of a PAL line, for every sprite. -/
def Obligations.PointerAndSecondByte : Prop := ∀ (s : State) (n : Nat), n < 8 → s.cfg.vicRevision = .pal6569 →
  let pn := [58, 60, 62, 1, 3, 5, 7, 9].getD n 0
  let p := s.vic.sprites.get n
  (s.vic.rasterCycle = pn →
    let a := pAddress s.vic.reg n
    a.toNat = s.vic.reg.memptr.toNat / 16 * 0x400 + 0x3f8 + n ∧ s.row?.map s.vic.phi1Word = some 0b0100 ∧
    exec .vaP s = .next { s with vicAddr := a, vic := { s.vic with
      sprites := s.vic.sprites.set n { p with ptr := (s.vicByte a).setWidth 16 <<< 6 } } }) ∧
  (s.vic.rasterCycle = pn + 1 →
    let a : BitVec 14 := p.ptr.setWidth 14 ||| p.mc.setWidth 14
    s.row?.map s.vic.phi1Word = some (if p.dma then 0b0110 else 0b0001) ∧
    exec .vaS2 s = .next { s with vicAddr := a, vic := { s.vic with
      sprites := s.vic.sprites.set n { p with ssr := { p.ssr with chunk2 := s.vicByte a }, mc := p.mc + 1 } } })

/-- R306 as numbers: the addresses of the VIC's accesses (the spec's g-access addresses in the illegal modes are decision D46), and R201:
the byte read there, from the character ROM in banks 0 and 2 at 0x1000..0x1FFF and from host RAM elsewhere. -/
def Obligations.AccessAddresses : Prop :=
  (∀ (r : VicRegs) (vc : BitVec 10), (cAddress r vc).toNat = r.memptr.toNat / 16 * 0x400 + vc.toNat) ∧
  (∀ (r : VicRegs) (n : Nat), n < 8 → (pAddress r n).toNat = r.memptr.toNat / 16 * 0x400 + 0x3f8 + n) ∧
  (∀ (p mc : BitVec 8), mc.toNat < 64 →
    (sAddress (p.setWidth 16 <<< 6) (mc.setWidth 6)).toNat = p.toNat * 64 + mc.toNat) ∧
  (∀ (r : VicRegs) (ch : Byte) (vc : BitVec 10) (rc : BitVec 3), r.ecm = false →
    (gAddress r ch vc rc).toNat =
      if r.bmm then r.memptr.toNat / 8 % 2 * 0x2000 + vc.toNat * 8 + rc.toNat
      else r.memptr.toNat / 2 % 8 * 0x800 + ch.toNat * 8 + rc.toNat) ∧
  (∀ (r : VicRegs) (ch : Byte) (vc : BitVec 10) (rc : BitVec 3), r.ecm = true →
    ∀ k, bit (gAddress r ch vc rc) k = (bit (gAddress { r with cr1 := r.cr1 &&& 0xbf } ch vc rc) k && k != 9 && k != 10)) ∧
  (∀ (s : State) (a : BitVec 14), s.vicByte a =
    if (s.vicBank = 0 ∨ s.vicBank = 2) ∧ 0x1000 ≤ a.toNat ∧ a.toNat ≤ 0x1fff then s.cfg.charRom.read (a.toNat - 0x1000)
    else s.ram.read (s.vicBank * 0x4000 + a.toNat))

/-! ### Encodings (30_encoding.md) -/

/-- R300-R304: every well-formed operation, at every value of its operands, is read back from its word and data byte. -/
def Obligations.DecodeEncode : Prop := ∀ i : Instr, i.wellFormed = true → decode (encode i) = .ok i

/-- R300-R304, R310, which the spec marks as its decision D32: a word that decodes gives a well-formed operation whose word it is, with
the data byte of a write; the only words that do not decode are those wider than their format and the eight reserved VIC accesses. -/
def Obligations.EncodeDecode : Prop := ∀ b : BusWord,
  (∀ i, decode b = .ok i → i.wellFormed = true ∧ encode i = if carriesData b then b else { b with data := 0 }) ∧
  ((∃ i, decode b = .ok i) ↔ b.word.toNat < 2 ^ b.port.width ∧ ¬ (b.port = .va ∧ reservedVicWord b.word = true))

/-- R301-R304: words written out bit by bit from the spec's formats decode to the operations they stand for. -/
def Obligations.SpecWords : Prop :=
  decode ⟨.hv, 0b1010010, 0⟩ = .ok .rVicRaster ∧ decode ⟨.hv, 0b0000111, 0x64⟩ = .ok (.wVicMnY 3 0x64) ∧
  decode ⟨.hv, 0b0100000, 0x0e⟩ = .ok (.wVicEc 0x0e) ∧ decode ⟨.hc, 0b101101, 0⟩ = .ok (.rCiaIcr .cia1) ∧
  decode ⟨.hc, 0b010100, 0x25⟩ = .ok (.wCiaTaLo .cia2 0x25) ∧ decode ⟨.dv, 0b110001, 0⟩ = .ok (.rViaOra .via2) ∧
  decode ⟨.dv, 0b000101, 0x40⟩ = .ok (.wViaT1ch .via1 0x40) ∧ decode ⟨.va, 0b0011, 0⟩ = .ok .vaG ∧
  decode ⟨.va, 0b1010, 0⟩ = .ok .vaC ∧ decode ⟨.va, 0b1111, 0⟩ = .ok .vaS3

/-- R203, R205, R301-R303 (the CIA ranges are the spec's decision D29): the addresses at which each register answers, mirrors included. -/
def Obligations.AddressDecode : Prop := ∀ (s : State) (d : Byte),
  (∀ (m a : Nat), m < 16 → a < 64 → ∀ i,
    (decode ⟨.hv, BitVec.ofNat 8 (64 + a), 0⟩ = .ok i → hostAccess exec (.ioRead (BitVec.ofNat 16 (0xd000 + 64 * m + a))) s = exec i s) ∧
    (decode ⟨.hv, BitVec.ofNat 8 a, d⟩ = .ok i → hostAccess exec (.ioWrite (BitVec.ofNat 16 (0xd000 + 64 * m + a)) d) s = exec i s)) ∧
  (∀ (c m a : Nat), c < 2 → m < 16 → a < 16 → ∀ i,
    (decode ⟨.hc, BitVec.ofNat 8 (32 + 16 * c + a), 0⟩ = .ok i →
      hostAccess exec (.ioRead (BitVec.ofNat 16 (0xdc00 + 256 * c + 16 * m + a))) s = exec i s) ∧
    (decode ⟨.hc, BitVec.ofNat 8 (16 * c + a), d⟩ = .ok i →
      hostAccess exec (.ioWrite (BitVec.ofNat 16 (0xdc00 + 256 * c + 16 * m + a)) d) s = exec i s)) ∧
  (∀ (v m a : Nat), v < 2 → m < 64 → a < 16 → ∀ i,
    (decode ⟨.dv, BitVec.ofNat 8 (32 + 16 * v + a), 0⟩ = .ok i →
      driveAccess exec (.read (BitVec.ofNat 16 (0x1800 + 1024 * v + 16 * m + a))) s = exec i s) ∧
    (decode ⟨.dv, BitVec.ofNat 8 (16 * v + a), d⟩ = .ok i →
      driveAccess exec (.write (BitVec.ofNat 16 (0x1800 + 1024 * v + 16 * m + a)) d) s = exec i s))

/-! ### The step (40_clock_bus.md) -/

/-- R400, R411, R421, R700, R701, R216 (notes/assumptions/1.md): a step runs the decoded operations. The host CPU's cycle, where it
proceeds, and the drive CPU's run the operation of the word they present; the VIC's step runs that of each half's word; and a step is the
host operations due, the VIC's step, the CIA ticks and the IEC update, the host CPU, the drive, and the end of the cycle. -/
def Obligations.StepRunsDecodedOperation : Prop := ∀ s : State,
  (∀ b i rest, (b.port = .hv ∨ b.port = .hc) → decode b = .ok i → s.hostQueue = hostAccessOf b :: rest →
    s.hostProceeds (hostAccessOf b) = true → hostCpuPhi2 exec s = exec i { s with hostQueue := rest }) ∧
  (∀ b i rest, b.port = .dv → decode b = .ok i → s.driveQueue = driveAccessOf b :: rest →
    driveCpuCycle exec s = exec i { s with driveQueue := rest }) ∧
  (∀ row i, decode ⟨.va, s.vic.phi1Word row, 0⟩ = .ok i → runWord exec ⟨.va, s.vic.phi1Word row, 0⟩ s = exec i s) ∧
  (∀ row w i, s.vic.phi2Word row = some w → decode ⟨.va, w, 0⟩ = .ok i → vicPhi2 exec row s = exec i s) ∧
  (∀ row, vicStep exec row s = andThen (runWord exec ⟨.va, (s.vicBeforeAccess row).vic.phi1Word row, 0⟩ (s.vicBeforeAccess row))
    fun m => andThen (vicPhi2 exec row m) fun m => .next m.vicAfterAccess) ∧
  step s = andThen (applyDue s.hostOps s) (cycleWith exec) ∧
  (∀ row, s.row? = some row → cycleWith exec s = andThen (vicStep exec row s) fun m =>
    andThen (hostCpuPhi2 exec ((m.ciaTick .cia1).ciaTick .cia2).iecStep) fun m =>
      andThen (if m.cfg.driveConnected then driveAdvance exec m else .next m) fun m => .next m.endCycle) ∧
  driveCycle exec s = driveCpuCycle exec ((s.diskAdvance.viaTick .via1).viaTick .via2)

/-- R442, R1302: a PAL cycle with no host operation waiting and no illegal mode on a 65xx chip runs to its end, whatever both CPUs
present; and the runs the spec refuses are refused: NTSC without its table, an illegal g-access on a 65xx, Ultimax. -/
def Obligations.CycleCompletes : Prop := ∀ s : State, s.hostOps = [] →
  (s.cycleDefined → ∃ t, step s = .next t) ∧
  (s.cfg.vicRevision = .ntsc6567 → s.cfg.ntscTable = none → step s = .refused .ntscTableMissing) ∧
  (s.cfg.vicRevision = .pal6569 → 16 ≤ s.vic.rasterCycle → s.vic.rasterCycle ≤ 55 → s.cfg.vic85xx = false →
    s.vic.reg.illegalMode = true → step s = .refused .vic65xxGlitch) ∧
  step { s with hostOps := [(0, .assertUltimax)] } = .refused .ultimax

/-- R403-R405, R11, which the spec derives: over n cycles with no host operation the raster position advances by n modulo the frame, a
frame is counted each time it passes the frame's end, and `cycle` counts every one. -/
def Obligations.FrameLaw : Prop := ∀ (n : Nat) (s t : State), s.positionInRange → s.hostOps = [] →
  Host.Core.run Sys2Proof.core n s = .next t →
    t.positionInRange ∧ t.cfg = s.cfg ∧
    t.framePosition = (s.framePosition + n) % cyclesPerFrame s.cfg ∧
    t.frame = s.frame + BitVec.ofNat 64 ((s.framePosition + n) / cyclesPerFrame s.cfg) ∧
    t.cycle = s.cycle + BitVec.ofNat 64 n

/-- R1320, R1412 (decision D31): what an operation of each port can change at all: neither CPU reaches the other side's chips, one CIA's
access never changes the other, and the VIC's accesses write no memory. -/
def Obligations.PortFrames : Prop := ∀ (i : Instr) (s t : State), exec i s = .next t →
  match portOf i with
  | .hv => t = { s with vic := t.vic, hostData := t.hostData, lines := { s.lines with irqVic := t.lines.irqVic } }
  | .va => t = { s with vic := t.vic, vicAddr := t.vicAddr, draws := t.draws }
  | .hc =>
    match ciaField (encode i).word with
    | .cia1 => t = { s with cia1 := t.cia1, hostData := t.hostData, lines := { s.lines with irqCia1 := t.lines.irqCia1 } }
    | .cia2 => t = { s with cia2 := t.cia2, hostData := t.hostData, lines := { s.lines with nmiCia2 := t.lines.nmiCia2 }
                            iec := { s.iec with dirtyC64 := t.iec.dirtyC64, ciaPins := t.iec.ciaPins } }
  | .dv =>
    match viaField (encode i).word with
    | .via1 => t = { s with via1 := t.via1, driveData := t.driveData, lines := { s.lines with driveIrqVia1 := t.lines.driveIrqVia1 }
                            iec := { s.iec with dirtyDrive := t.iec.dirtyDrive }, messages := t.messages, diagnosed := t.diagnosed }
    | .via2 => t = { s with via2 := t.via2, driveData := t.driveData, lines := { s.lines with driveIrqVia2 := t.lines.driveIrqVia2 }
                            head := { s.head with zone := t.head.zone, stepperPhase := t.head.stepperPhase
                                                  halftrack := t.head.halftrack, bitoffset := t.head.bitoffset }
                            messages := t.messages, diagnosed := t.diagnosed }

/-! ### Invariants -/

/-- The canonical form of the memories is the model's own (notes/assumptions/5.md): every step keeps it. -/
def Obligations.MemoryInvariant : Prop := ∀ s t : State, s.MemoryInv → step s = .next t → t.MemoryInv

/-- R112, R502, R503: the CIAs' ports follow their latches, unused register bits are 0, and the pipeline holds defined stages only. -/
def Obligations.CiaInvariant : Prop := ∀ s t : State,
  (s.CiaInv → step s = .next t → t.CiaInv) ∧ (s.PipelineInv → step s = .next t → t.PipelineInv)

/-- R1300, R1310: after every step each chip pulls its line exactly while its condition is true. -/
def Obligations.LineInvariant : Prop := ∀ s t : State, s.LineInv → step s = .next t → t.LineInv

/-- R101, R725, R811: the bits a register lacks stay 0, a bad line is in display state, and a sprite without Y expansion has its flip-flop
set. -/
def Obligations.VicInvariant : Prop := ∀ s t : State,
  (s.UnusedBitsInv → step s = .next t → t.UnusedBitsInv) ∧
  (s.DisplayInv → step s = .next t → t.DisplayInv) ∧
  (s.ExpansionInv → step s = .next t → t.ExpansionInv)

/-- R102, R403: the raster position stays in the frame, in a run whose parameters are fixed (R10). -/
def Obligations.RasterInvariant : Prop := ∀ s t : State, s.RasterInv → step s = .next t → t.RasterInv

/-- R1110, R1112, R1104, R1130, R1131, R420 (decisions D22, D23): the bit timer stays in its range, the byte counter is 0 under a SYNC
mark, zone and stepper phase are those of VIA2's port B, the bit offset stays inside the half-track under the head where no half-track is
empty, and less than one drive cycle is left over. -/
def Obligations.DriveInvariant : Prop := ∀ s t : State,
  (s.HeadInv → step s = .next t → t.HeadInv) ∧ (s.OffsetInv → step s = .next t → t.OffsetInv) ∧
  (s.DriveTimeInv → step s = .next t → t.DriveTimeInv)

/-- R100-R107, R111-R113, R115-R117 (decision D30): in the configuration the model chooses (notes/assumptions/3.md) reset has every invariant
of this file, and the values of the reset columns. `xCounter` 400 is R705 at cycle 1. The model's choices beside the configuration: that both
dirty flags are false, as R117 says, where R1401 and R1402 have the reset operations set them (notes/assumptions/30.md); and the half-tracks of
the empty drive, with the lengths of R1101, on which `OffsetInv` rests (notes/assumptions/40.md). -/
def Obligations.ResetInvariants : Prop := let s := State.reset
  s.MemoryInv ∧ s.CiaInv ∧ s.PipelineInv ∧ s.LineInv ∧ s.UnusedBitsInv ∧ s.DisplayInv ∧ s.ExpansionInv ∧ s.RasterInv ∧ s.HeadInv ∧
  s.OffsetInv ∧ s.DriveTimeInv ∧
  s.vic.reg = VicRegs.zero ∧ s.vic.yCounter = 0 ∧ s.vic.rasterCycle = 1 ∧ s.vic.xCounter = 400 ∧ s.vic.irr = 0 ∧ s.vic.imr = 0 ∧
  s.vic.refreshCounter = 0xff ∧ s.vic.displayState = false ∧ s.vic.ff = ⟨true, true⟩ ∧ s.vic.workingBuffer = .one ∧
  (∀ n, n < 8 → (s.vic.sprites.get n).dma = false ∧ (s.vic.sprites.get n).display = false ∧
    (s.vic.sprites.get n).expansionFF = true) ∧
  (∀ c, let x := s.cia c
    x.counterA = 0xffff ∧ x.counterB = 0xffff ∧ x.latchA = 0xffff ∧ x.latchB = 0xffff ∧ x.paLatch = 0 ∧ x.pbLatch = 0 ∧
    x.ddra = 0 ∧ x.ddrb = 0 ∧ x.pa = 0xff ∧ x.pb = 0xff ∧ x.cra = 0 ∧ x.crb = 0 ∧ x.icr = 0 ∧ x.imr = 0 ∧ x.int = false ∧
    x.delay = 0 ∧ x.feed = 0 ∧ x.serClk = true ∧ x.tod.time = ⟨0, 0, 0, 0x01⟩ ∧ x.tod.stopped = true ∧ x.tod.alarm = ⟨0, 0, 0, 0⟩) ∧
  (∀ v, let x := s.via v
    x.ora = 0 ∧ x.orb = 0 ∧ x.ddra = 0 ∧ x.ddrb = 0 ∧ x.acr = 0 ∧ x.pcr = 0 ∧ x.ifr = 0 ∧ x.ier = 0 ∧ x.sr = 0 ∧
    x.t1Armed = false ∧ x.t2Armed = false ∧ x.pb7T1Out = true ∧ x.ca1 = true ∧ x.ca2 = true ∧ x.cb1 = true ∧ x.cb2 = true) ∧
  s.head.halftrack.val + 1 = 35 ∧ s.head.bitoffset = 0 ∧ s.head.zone = 0 ∧ s.head.stepperPhase = 3 ∧ s.disk.inserted = false ∧
  s.iec.atnLine = true ∧ s.iec.clkLine = true ∧ s.iec.dataLine = true ∧ s.iec.dirtyC64 = false ∧ s.iec.dirtyDrive = false ∧
  s.cycle = 0 ∧ s.frame = 0 ∧ s.driveTimeAcc = 0

/-! ### Host operations (70_reset_and_hazards.md) -/

/-- R1401, R1402 with the reset columns of R101-R107, R111-R113, R115-R117, which the spec marks as its decision D30: what the two resets
set, and what they keep. VIA timers are drawn, free values (R115). The model's choices: the pin levels a reset sets or keeps, and the X
coordinate under an NTSC table (notes/assumptions/25.md), `zBuffer` and `pixelSource` (notes/assumptions/32.md), `matched`
(notes/assumptions/13.md), that no cycle is the VIC's yet (`aec`, notes/assumptions/7.md), that a reset sets the dirty flag of its own side
alone and clears the other, as R117 has it (notes/assumptions/30.md), and that R1402 decides over R116's column for `changeSignal` and
`changeTimer`, which are kept (notes/assumptions/45.md). -/
def Obligations.Resets : Prop := ∀ s : State,
  (let sprite : Sprite := {
      mc := 0, mcbase := 0, ptr := 0, dma := false, display := false, expansionFF := true
      ssr := {
        data := 0, chunk1 := 0, chunk2 := 0, chunk3 := 0, remainingBits := 0, active := false, mcFlop := false, expFlop := false
        colBits := 0, matched := false } }
   let cia : Cia := {
      counterA := 0xffff, counterB := 0xffff, latchA := 0xffff, latchB := 0xffff, cra := 0, crb := 0, icr := 0, imr := 0, int := false
      paLatch := 0, pbLatch := 0, ddra := 0, ddrb := 0, pa := 0xff, pb := 0xff, extPA := 0xff, extPB := 0xff
      sdr := 0, serShift := 0, serClk := true, serCounter := 0, sdrPending := false, cntPin := true, flagPin := true, spPin := true
      pb6Out := false, pb7Out := false, delay := 0, feed := 0
      tod := {
        time := ⟨0, 0, 0, 0x01⟩, alarm := ⟨0, 0, 0, 0⟩, latch := ⟨0, 0, 0, 0x01⟩, latched := false, stopped := true, divider := 0 } }
   ∃ x : BitVec 16, (s.cfg.vicRevision = .pal6569 → x = 400) ∧
    applyHostOp .resetHost s = .next { s with
      vic := {
        reg := VicRegs.zero, regDelayed := VicRegs.zero, lpx := 0, lpy := 0, rasterIrqLine := 0, irr := 0, imr := 0
        refreshCounter := 0xff, xCounter := x, yCounter := 0, rasterCycle := 1, rasterMatchLatched := false, vblank := false
        lpTriggeredThisFrame := false, lpPin := true, vc := 0, vcBase := 0, rc := 0, vmli := 0
        videoMatrix := List.replicate 40 0, colorLine := List.replicate 40 0, badLine := false, denWasSet := false
        displayState := false, gAccess := ⟨0, 0, 0⟩
        sr := {
          data := 0, canLoad := false, mcFlop := false, latchedCharacter := 0, latchedColor := 0, colorbits := 0, remainingBits := 0 }
        sprites := ⟨sprite, sprite, sprite, sprite, sprite, sprite, sprite, sprite⟩, clearedBitsInD017 := 0
        ff := ⟨true, true⟩, ffDelayed := ⟨true, true⟩, baLine := ⟨0, 0, 0, 0⟩, aec := false
        spriteSpriteCollision := 0, spriteBackgroundCollision := 0
        screenBuffer1 := s.vic.screenBuffer1, screenBuffer2 := s.vic.screenBuffer2, workingBuffer := .one
        zBuffer := Vic.reset.zBuffer, pixelSource := Vic.reset.pixelSource }
      cia1 := cia
      cia2 := cia
      iec := { s.iec with atnLine := true, clkLine := true, dataLine := true, dirtyC64 := true, dirtyDrive := false }
      lines := { s.lines with irqVic := false, irqCia1 := false, nmiCia2 := false } }) ∧
  (let via : Via → BitVec 16 → BitVec 16 → BitVec 16 → Byte → Via := fun old c l d b => {
      ora := 0, orb := 0, ddra := 0, ddrb := 0, ira := 0, irb := 0, t1Counter := c, t1Latch := l, t2Counter := d, t2LatchLo := b
      t1Armed := false, t2Armed := false, t1ReloadPending := false, pb7T1Out := true, sr := 0, acr := 0, pcr := 0, ifr := 0, ier := 0
      ca1 := true, ca2 := true, cb1 := true, cb2 := true, ca2Pulse := false, cb2Pulse := false, pb6Prev := true
      extPA := old.extPA, extPB := old.extPB, extCA2 := old.extCA2, extCB1 := old.extCB1, extCB2 := old.extCB2 }
   ∃ c1 l1 d1 c2 l2 d2 b1 b2 n,
    applyHostOp .resetDrive s = .next { s with
      via1 := via s.via1 c1 l1 d1 b1
      via2 := via s.via2 c2 l2 d2 b2
      head := {
        halftrack := 34, bitoffset := 0, zone := 0, readShiftreg := 0, writeShiftreg := 0, sync := false, byteReadyCounter := 0
        bitReadyTimer := 0, stepperPhase := 3, byteReadyLine := false
        changeSignal := s.head.changeSignal, changeTimer := s.head.changeTimer }
      driveTimeAcc := 0
      iec := { s.iec with dirtyC64 := false, dirtyDrive := true }
      lines := { s.lines with driveIrqVia1 := false, driveIrqVia2 := false }
      draws := n })

/-! ### BA and the host CPU (R410, R411, R730) -/

/-- R730, R830, R410, R411 (decisions D11, D34): which sources pull BA in each PAL cycle, and when the host CPU's cycle is held: while the
VIC has the bus, and while BA is low, for a write or for a read as the policy says. A held access waits for the next cycle. That a cycle
without an access counts as a read is the model's choice (notes/assumptions/8.md). -/
def Obligations.BusHandover : Prop :=
  (∀ (v : Vic) (c : Nat) (row : CycleRow), palRow? c = some row →
    (∀ n, n < 8 → (bit (v.baWord row) n = true ↔
      (v.sprites.get n).dma = true ∧ ∃ k, k < 5 ∧ (c + 3) % 63 = ([58, 60, 62, 1, 3, 5, 7, 9].getD n 0 + k) % 63)) ∧
    (bit (v.baWord row) 8 = true ↔ v.badLine = true ∧ 12 ≤ c ∧ c ≤ 54) ∧
    (∀ k, 9 ≤ k → bit (v.baWord row) k = false)) ∧
  (∀ (s : State) (a : HostAccess) (rest : List HostAccess), s.hostQueue = a :: rest →
    ((s.vic.aec = true ∨ (s.vic.baLine.v0 ≠ 0 ∧ a.isWrite = decide (s.cfg.cpuBaPolicy = .sourceLiteral))) →
      hostCpuPhi2 exec s = .next s) ∧
    (¬ (s.vic.aec = true ∨ (s.vic.baLine.v0 ≠ 0 ∧ a.isWrite = decide (s.cfg.cpuBaPolicy = .sourceLiteral))) →
      hostCpuPhi2 exec s = hostAccess exec a { s with hostQueue := rest }))

/-! ### Pixels (43_vic_raster.md, 45_vic_pixels.md) -/

/-- R770, R771, R772, R773: the border flip-flops. -/
def Obligations.BorderCompares : Prop := ∀ (v : Vic) (r : VicRegs) (x : BitVec 16),
  let left : BitVec 16 := if r.csel then 24 else 31
  let right : BitVec 16 := if r.csel then 344 else 335
  (v.ff.compare r x).vertical = v.ff.vertical ∧
  (x = right → (v.ff.compare r x).main = true) ∧
  (x = left → (v.ff.compare r x).main = (v.ff.main && v.ff.vertical)) ∧
  (x ≠ left → x ≠ right → (v.ff.compare r x).main = v.ff.main) ∧
  (let lower : BitVec 32 := if v.reg.rsel then 251 else 247
   let upper : BitVec 32 := if v.reg.rsel then 51 else 55
   v.verticalCompare = { v with ff := { v.ff with vertical :=
     if v.yCounter = upper ∧ v.reg.den = true then false else if v.yCounter = lower then true else v.ff.vertical } })

/-- R930, which the spec marks as its decision D28: the collisions of one pixel. A sprite collides with another sprite exactly when both
show something, and with foreground; the interrupt bit is latched only when its register was 0. -/
def Obligations.PixelCollisions : Prop := ∀ (v : Vic) (px : Eight (BitVec 2)) (fg : Bool), let w := v.collide px fg
  (∀ n, n < 8 → (bit w.spriteSpriteCollision n = true ↔ bit v.spriteSpriteCollision n = true ∨
    (px.get n ≠ 0 ∧ ∃ m, m < 8 ∧ m ≠ n ∧ px.get m ≠ 0))) ∧
  (∀ n, n < 8 → (bit w.spriteBackgroundCollision n = true ↔ bit v.spriteBackgroundCollision n = true ∨ (px.get n ≠ 0 ∧ fg = true))) ∧
  w.irr = v.irr |||
    (if v.spriteSpriteCollision = 0 ∧ w.spriteSpriteCollision ≠ 0 then 0x04 else 0x00) |||
    (if v.spriteBackgroundCollision = 0 ∧ w.spriteBackgroundCollision ≠ 0 then 0x02 else 0x00) ∧
  w = { v with irr := w.irr, spriteSpriteCollision := w.spriteSpriteCollision, spriteBackgroundCollision := w.spriteBackgroundCollision }

/-- R850, R851, which the spec marks as its decision D10: a single-colour sprite shows its 24 bits, the first chunk's highest first, each
in one pixel or, X-expanded, in two, and is then inactive. -/
def Obligations.SpriteShift : Prop := ∀ (p : Sprite) (r : VicRegs) (n : Nat), n < 8 → bit r.mxmc n = false →
  p.ssr.active = true → p.ssr.expFlop = true → p.ssr.remainingBits = 24 →
  let wide := if bit r.mxxe n then 2 else 1
  (∀ k, k < 24 * wide →
    (Sprite.shifts r n (24 * wide) p).2.getD k 0 = if bit p.ssr.data (23 - k / wide) then 2 else 0) ∧
  (Sprite.shifts r n (24 * wide) p).1.ssr.active = false ∧
  ∀ k, k < 24 * wide → (Sprite.shifts r n k p).1.ssr.active = true

/-! ### CIA timers and clock (41_cia.md) -/

/-- R521, which the spec derives from R520: a timer A that counts phi2, reloaded to N with its pipeline filled, sets bit 0 of ICR in the
(N+1)-th tick and interrupts in the tick after, and then stands as it did at the start, so it underflows every N+1 ticks. -/
def Obligations.CiaUnderflowLaw : Prop := ∀ (x : Cia) (N : Nat),
  N < 2 ^ 16 → x.counterA = BitVec.ofNat 16 N → x.latchA = x.counterA → x.imr = 0x01 → x.int = false → bit x.icr 0 = false →
  x.delay &&& 0x181c030f = 0x7 → x.feed &&& ~~~ stickyStages = 0 → bit x.feed 0 = true → bit x.feed 20 = false →
  (∀ k, k ≤ N → bit (Cia.ticks k x).icr 0 = false ∧ (Cia.ticks k x).int = false) ∧
  (let y := Cia.ticks (N + 1) x
   bit y.icr 0 = true ∧ y.int = false ∧ y.counterA = x.counterA ∧ y.latchA = x.latchA ∧ y.delay &&& 0x30f = 0x7) ∧
  (Cia.ticks (N + 2) x).int = true

/-- R545, R579, which the spec marks as its decision D16: on a valid time of day an increment is one tenth of a second later on a clock of
24 hours, and leaves a valid time. -/
def Obligations.TodCounts : Prop := ∀ t : TodTime, t.valid →
  t.increment.valid ∧ t.increment.tenths = (t.tenths + 1) % 864000

/-! ### VIA timer and head (46_via.md, 47_disk.md) -/

/-- R1021, which the spec marks as its decision D19: a free-running timer 1 loaded with N reads N - k after k ticks, passes 0 in tick N+1,
sets its flag there and not before, and is at N again one tick later: a period of N+2. -/
def Obligations.ViaTimerOnePeriod : Prop := ∀ (x : Via) (N : Nat) (pa pb : Byte) (ca1 : Bool),
  N < 2 ^ 16 → x.t1Counter = BitVec.ofNat 16 N → x.t1Latch = x.t1Counter → x.t1ReloadPending = false → bit x.acr 6 = true →
  (∀ k, k ≤ N → (Via.ticks pa pb ca1 k x).t1Counter = BitVec.ofNat 16 (N - k) ∧
    bit (Via.ticks pa pb ca1 k x).ifr 6 = bit x.ifr 6) ∧
  (Via.ticks pa pb ca1 (N + 1) x).t1Counter = 0xffff ∧ bit (Via.ticks pa pb ca1 (N + 1) x).ifr 6 = true ∧
  (let y := Via.ticks pa pb ca1 (N + 2) x
   y.t1Counter = x.t1Counter ∧ y.t1Latch = x.t1Latch ∧ y.t1ReloadPending = false ∧ y.acr = x.acr)

/-- R1112, R1161: after ten or more bits in read mode, `sync` is true exactly when the last ten were all 1, and the bit counter is then 0;
in write mode it is false; VIA2's PB7 input reads its complement. -/
def Obligations.SyncDetection : Prop := ∀ (s : State) (bits : List Bool), 10 ≤ bits.length → let t := s.takeBits bits
  (s.readMode = true → (t.head.sync = true ↔ ∀ b ∈ bits.drop (bits.length - 10), b = true)) ∧
  (s.readMode = false → t.head.sync = false) ∧
  (t.head.sync = true → t.head.byteReadyCounter = 0) ∧
  bit (t.viaPbIn .via2) 7 = !t.head.sync

/-- R1130, R1131, R1104 (decisions D22, D26): a phase one up or down moves the head one half-track, within 1..84; the offset is rescaled
to the new length, rounded down to a byte, and stays inside it. Half-track h is held as h - 1. That the offset is 0 after a step off a
half-track of length 0, where R1130 divides by 0, is the model's choice (notes/assumptions/38.md). -/
def Obligations.HeadSteps : Prop := ∀ (d : Disk) (h : Head) (pb : Byte),
  let new := (field pb 0 2).toNat
  let old := h.stepperPhase.toNat
  let g := headSees d h pb
  (new = (old + 1) % 4 → h.halftrack.val < 83 → g.halftrack.val = h.halftrack.val + 1 ∧
    g.bitoffset = BitVec.ofNat 16 (h.bitoffset.toNat * d.trackLength g.halftrack / d.trackLength h.halftrack / 8 * 8)) ∧
  (new = (old + 3) % 4 → 0 < h.halftrack.val → g.halftrack.val = h.halftrack.val - 1 ∧
    g.bitoffset = BitVec.ofNat 16 (h.bitoffset.toNat * d.trackLength g.halftrack / d.trackLength h.halftrack / 8 * 8)) ∧
  (¬ (new = (old + 1) % 4 ∧ h.halftrack.val < 83) → ¬ (new = (old + 3) % 4 ∧ 0 < h.halftrack.val) →
    g.halftrack = h.halftrack ∧ g.bitoffset = h.bitoffset) ∧
  (h.bitoffset.toNat < d.trackLength h.halftrack → 0 < d.trackLength g.halftrack →
    g.bitoffset.toNat < d.trackLength g.halftrack) ∧
  g = { h with halftrack := g.halftrack, bitoffset := g.bitoffset, stepperPhase := field pb 0 2, zone := 3 - field pb 5 2 }

/-- R1150: the code, the high nibble of a byte first; and in any concatenation of code words there are never three 0 bits or nine 1
bits in a row, so data forms no SYNC mark. -/
def Obligations.GcrNeverSyncs : Prop :=
  (List.range 16).map (fun n => gcrCode (BitVec.ofNat 4 n)) =
    [0b01010, 0b01011, 0b10010, 0b10011, 0b01110, 0b01111, 0b10110, 0b10111,
     0b01001, 0b11001, 0b11010, 0b11011, 0b01101, 0b11101, 0b11110, 0b10101] ∧
  ∀ l : List Byte,
    gcrEncode l = l.flatMap (fun b => bitsOf (gcrCode (field b 4 4)) ++ bitsOf (gcrCode (field b 0 4))) ∧
    ¬ (List.replicate 3 false <:+: gcrEncode l) ∧ ¬ (List.replicate 9 true <:+: gcrEncode l)

/-- R1150, R1152, R1153: what is encoded is decoded, and a sector written as R1152 lays it out is read back from its header's first bit
on. -/
def Obligations.GcrRoundTrip : Prop :=
  (∀ (l : List Byte) (rest : List Bool), gcrDecode l.length (gcrEncode l ++ rest) = some (l, rest)) ∧
  (∀ (id : Byte × Byte) (t n : Nat) (data : List Byte) (rest : List Bool), t < 256 → n < 256 → data.length = 256 →
    readSector (gcrEncode (headerBytes id t n) ++ gapBits ++ syncBits ++ gcrEncode (dataBytes data) ++ rest) = some (t, n, data))

/-! ### IEC bus (48_iec.md) -/

/-- R1200, R1203, R1204 (decision D27): each line is released exactly when neither side holds it; the drive answers ATN on DATA until it
acknowledges; an unconnected drive holds nothing. Nothing but the bus changes. -/
def Obligations.IecLines : Prop := ∀ s : State, let t := s.iecUpdate
  let pa := s.cia2.paLatch ||| ~~~ s.cia2.ddra
  let pb := viaPbOut s.via1
  let drive := s.cfg.driveConnected
  (t.iec.atnLine = false ↔ bit pa 3 = true) ∧
  (t.iec.clkLine = false ↔ bit pa 4 = true ∨ (drive = true ∧ bit pb 3 = true)) ∧
  (t.iec.dataLine = false ↔ bit pa 5 = true ∨
    (drive = true ∧ (bit pb 1 = true ∨ ¬ (t.iec.atnLine = false ↔ bit pb 4 = true)))) ∧
  t.iec.dirtyC64 = false ∧ t.iec.dirtyDrive = false ∧ t.iec.ciaPins = (pa, s.cia2.ddra) ∧ t.iec.devicePins = (s.via1.orb, s.via1.ddrb) ∧
  t = { s with iec := t.iec }
end

