-- ==== Sys2Proof/Laws/Fields.lean ====
section
/-! SUPPORT. The eight-fold vectors and the bit fields: reading after writing, entry by entry and bit by bit. -/

namespace Sys2Proof

/-- A property of 0..7 is eight facts. -/
theorem forall_lt_eight {p : Nat → Prop} (h : p 0 ∧ p 1 ∧ p 2 ∧ p 3 ∧ p 4 ∧ p 5 ∧ p 6 ∧ p 7) : ∀ n, n < 8 → p n := by
  intro n hn
  obtain ⟨h0, h1, h2, h3, h4, h5, h6, h7⟩ := h
  interval_cases n <;> assumption

namespace Eight

variable {α β : Type} {n m : Nat}

@[simp] theorem get_set_same (v : Eight α) (n : Nat) (x : α) : (v.set n x).get n = x := by
  have h : n % 8 < 8 := Nat.mod_lt _ (by decide)
  unfold Eight.set Eight.get
  revert h
  generalize n % 8 = k
  intro h
  interval_cases k <;> rfl

theorem get_set_other (v : Eight α) (x : α) (hn : n < 8) (hm : m < 8) (h : m ≠ n) : (v.set n x).get m = v.get m := by
  interval_cases n <;> interval_cases m <;> first | rfl | exact absurd rfl h

theorem get_mapIdx (f : Nat → α → β) (v : Eight α) (hn : n < 8) : (v.mapIdx f).get n = f n (v.get n) := by
  interval_cases n <;> rfl

theorem ext_get {u v : Eight α} (h : ∀ n, n < 8 → u.get n = v.get n) : u = v := by
  obtain ⟨u0, u1, u2, u3, u4, u5, u6, u7⟩ := u
  obtain ⟨v0, v1, v2, v3, v4, v5, v6, v7⟩ := v
  have h0 := h 0 (by decide); have h1 := h 1 (by decide); have h2 := h 2 (by decide); have h3 := h 3 (by decide)
  have h4 := h 4 (by decide); have h5 := h 5 (by decide); have h6 := h 6 (by decide); have h7 := h 7 (by decide)
  simp only [Eight.get] at h0 h1 h2 h3 h4 h5 h6 h7
  simp_all

end Eight

namespace Machine

/-- Entry n of eight flags is bit n of their byte. -/
theorem bit_toByte (v : Eight Bool) {n : Nat} (hn : n < 8) : bit v.toByte n = v.get n := by
  obtain ⟨v0, v1, v2, v3, v4, v5, v6, v7⟩ := v
  interval_cases n <;> revert v0 v1 v2 v3 v4 v5 v6 v7 <;> decide

@[simp] theorem bit_and {w : Nat} (a b : BitVec w) (k : Nat) : bit (a &&& b) k = (bit a k && bit b k) := BitVec.getLsbD_and
@[simp] theorem bit_or {w : Nat} (a b : BitVec w) (k : Nat) : bit (a ||| b) k = (bit a k || bit b k) := BitVec.getLsbD_or

theorem bit_not {w : Nat} (a : BitVec w) (k : Nat) : bit (~~~ a) k = (decide (k < w) && !(bit a k)) := BitVec.getLsbD_not

theorem eq_of_bit {w : Nat} {a b : BitVec w} (h : ∀ k, k < w → bit a k = bit b k) : a = b := BitVec.eq_of_getLsbD_eq h

/-- One bit written, read back at any position. -/
theorem bit_withBit {w : Nat} (v : BitVec w) (i k : Nat) (b : Bool) :
    bit (withBit v i b) k = if k = i ∧ i < w then b else bit v k := by
  unfold withBit bit
  cases b <;> by_cases hi : i < w <;> by_cases hk : k = i <;> by_cases hw : k < w <;>
    simp_all [eq_comm]

theorem bit_field {w : Nat} (v : BitVec w) (lo n k : Nat) : bit (field v lo n) k = (decide (k < n) && bit v (lo + k)) := by
  simp [bit, field, BitVec.getLsbD_extractLsb']

/-- A masked write takes the mask's bits from the first word and the others from the second. -/
theorem bit_selectBits {w : Nat} (m a b : BitVec w) {k : Nat} (hk : k < w) :
    bit (selectBits m a b) k = if bit m k then bit a k else bit b k := by
  unfold selectBits
  cases h : bit m k <;> simp [bit_not, hk, h]

end Machine

end Sys2Proof
end

