-- ==== Sys2Proof/Laws/Memory.lean ====
section
/-!
SUPPORT. Memory: a read after a write, and that every memory operation keeps the canonical form.
-/

namespace Sys2Proof

/-- A read of a memory whose listed addresses are all above it. -/
theorem Memory.read_of_lt {m : Memory} {a : Nat} (h : ∀ c ∈ m, a < c.1) : m.read a = Memory.unlisted := by
  induction m with
  | nil => rfl
  | cons c t ih =>
    obtain ⟨k, b⟩ := c
    have hk : a < k := h (k, b) (List.mem_cons_self ..)
    simp only [Memory.read]
    rw [if_neg (by omega), ih fun x hx => h x (List.mem_cons_of_mem _ hx)]

/-- Every cell of a written memory was there before, or is the written one. -/
theorem Memory.mem_write {m : Memory} {a : Nat} {v : Byte} {c : Host.Cell} (h : c ∈ m.write a v) :
    c ∈ m ∨ c = (a, v) ∧ v ≠ Memory.unlisted := by
  induction m with
  | nil =>
    simp only [Memory.write] at h
    split at h <;> simp_all
  | cons d t ih =>
    obtain ⟨k, b⟩ := d
    simp only [Memory.write] at h
    split at h
    · split at h <;> simp_all
      rcases h with h | h | h <;> simp_all
    · split at h
      · split at h <;> simp_all
        rcases h with h | h <;> simp_all
      · rcases List.mem_cons.mp h with h | h
        · simp_all
        · rcases ih h with h | h <;> simp_all

/-- A write keeps the canonical form. -/
theorem Memory.wf_write {m : Memory} (h : m.wf) (a : Nat) (v : Byte) : (m.write a v).wf := by
  induction m with
  | nil =>
    simp only [Memory.write]
    split
    · exact h
    · exact ⟨by simp, by simpa using ‹v ≠ _›⟩
  | cons d t ih =>
    obtain ⟨k, b⟩ := d
    obtain ⟨hs, hu⟩ := h
    have hs' := List.pairwise_cons.mp hs
    have ht : Memory.wf t := ⟨hs'.2, fun c hc => hu c (List.mem_cons_of_mem _ hc)⟩
    simp only [Memory.write]
    split
    · split
      · exact ⟨hs, hu⟩
      · rename_i hak hv
        refine ⟨List.pairwise_cons.mpr ⟨?_, hs⟩, ?_⟩
        · intro x hx
          rcases List.mem_cons.mp hx with rfl | hx
          · exact hak
          · exact Nat.lt_trans hak (hs'.1 x hx)
        · intro x hx
          rcases List.mem_cons.mp hx with rfl | hx
          · exact hv
          · exact hu x hx
    · split
      · rename_i hka
        split
        · exact ht
        · refine ⟨List.pairwise_cons.mpr ⟨fun x hx => hka ▸ hs'.1 x hx, hs'.2⟩, ?_⟩
          intro x hx
          rcases List.mem_cons.mp hx with rfl | hx
          · assumption
          · exact hu x (List.mem_cons_of_mem _ hx)
      · rename_i hak hka
        have hw := ih ht
        refine ⟨List.pairwise_cons.mpr ⟨?_, hw.1⟩, ?_⟩
        · intro x hx
          rcases Memory.mem_write hx with hx | ⟨rfl, _⟩
          · exact hs'.1 x hx
          · simp only; omega
        · intro x hx
          rcases List.mem_cons.mp hx with rfl | hx
          · exact hu _ (List.mem_cons_self ..)
          · exact hw.2 x hx

/-- The empty memory is canonical. -/
theorem Memory.wf_nil : Memory.wf [] := ⟨by simp, by simp⟩

/-- A read after a write to the same address gives the value written. -/
theorem Memory.read_write_same {m : Memory} (h : m.wf) (a : Nat) (v : Byte) : (m.write a v).read a = v := by
  induction m with
  | nil =>
    simp only [Memory.write]
    split <;> simp_all [Memory.read]
  | cons d t ih =>
    obtain ⟨k, b⟩ := d
    obtain ⟨hs, hu⟩ := h
    have hs' := List.pairwise_cons.mp hs
    simp only [Memory.write]
    split
    · rename_i hak
      split
      · rename_i hv
        rw [Memory.read_of_lt, hv]
        intro x hx
        rcases List.mem_cons.mp hx with rfl | hx
        · exact hak
        · exact Nat.lt_trans hak (hs'.1 x hx)
      · simp [Memory.read]
    · split
      · rename_i hka
        split
        · rename_i hv
          rw [Memory.read_of_lt fun x hx => hka ▸ hs'.1 x hx, hv]
        · simp [Memory.read]
      · rename_i hka
        simp only [Memory.read, if_neg hka]
        exact ih ⟨hs'.2, fun c hc => hu c (List.mem_cons_of_mem _ hc)⟩

/-- A write leaves every other address alone. -/
theorem Memory.read_write_other {m : Memory} (h : m.wf) {a b : Nat} (hab : b ≠ a) (v : Byte) :
    (m.write a v).read b = m.read b := by
  induction m with
  | nil =>
    simp only [Memory.write]
    split
    · rfl
    · simp [Memory.read, Ne.symm hab]
  | cons d t ih =>
    obtain ⟨k, c⟩ := d
    obtain ⟨hs, hu⟩ := h
    have hs' := List.pairwise_cons.mp hs
    simp only [Memory.write]
    split
    · split
      · rfl
      · simp [Memory.read, Ne.symm hab]
    · split
      · rename_i hka
        subst hka
        split
        · simp only [Memory.read, if_neg (Ne.symm hab)]
        · simp [Memory.read, Ne.symm hab]
      · simp only [Memory.read]
        rw [ih ⟨hs'.2, fun c hc => hu c (List.mem_cons_of_mem _ hc)⟩]

end Sys2Proof
end

