-- ==== Sys2Proof/Laws/Ops.lean ====
section
/-! SUPPORT. What each shared operation can do, said once: sequencing, the change of a VIA, its access, the VIC's slots, the queue of
messages. Later proofs cite these and do not unfold the operations. -/

namespace Sys2Proof.Machine

variable {s t : State} {v : ViaId} {x : Via}

/-! ### Sequencing -/

@[simp] theorem andThen_next (s : State) (f : State → Host.Outcome State Fault Refusal) : andThen (.next s) f = f s := rfl

/-- A sequence ends in a next state exactly when both of its parts do. -/
theorem andThen_eq_next {o : Host.Outcome State Fault Refusal} {f : State → Host.Outcome State Fault Refusal} :
    andThen o f = .next t ↔ ∃ m, o = .next m ∧ f m = .next t := by
  cases o <;> simp [andThen]

theorem next_injective (h : (Host.Outcome.next s : Host.Outcome State Fault Refusal) = .next t) : s = t := by
  simpa using h

/-! ### Ranges (R1301 code 2) -/

@[simp] theorem recover_inRange (s t : State) : s.recover true t = s := rfl
@[simp] theorem recover_outOfRange (s t : State) : s.recover false t = t.raise .invariantViolation := rfl

/-- A recovery keeps what the recovered state and a diagnostic keep. -/
theorem recover_keeps {P : State → Prop} {b : Bool} (hs : P s) (ht : b = false → P (t.raise .invariantViolation)) : P (s.recover b t) := by
  cases b
  · exact ht rfl
  · exact hs

theorem clamp_le {lo hi n : Nat} (h : lo ≤ hi) : lo ≤ clamp lo hi n ∧ clamp lo hi n ≤ hi := by
  unfold clamp; omega

theorem clamp_inRange {lo hi n : Nat} (h : lo ≤ n ∧ n ≤ hi) : clamp lo hi n = n := by
  unfold clamp; omega

/-! ### A VIA replaced -/

/-- While port B's output stays, replacing a VIA changes nothing else. -/
theorem updateVia_quiet (h : viaPbOut x = viaPbOut (s.via v)) : s.updateVia v x = s.setViaFields v x := by
  cases v <;> simp_all [State.updateVia, State.setViaFields, State.via]

/-- VIA1: a change of port B's output makes the IEC lines dirty. -/
theorem updateVia_via1 :
    s.updateVia .via1 x =
      { s with
        via1 := x
        iec := { s.iec with dirtyDrive := s.iec.dirtyDrive || decide (viaPbOut x ≠ viaPbOut s.via1) } } := by
  by_cases h : viaPbOut x = viaPbOut s.via1 <;> simp [State.updateVia, h]

/-- R1160: an offset inside the half-track is left as it is. -/
theorem checkOffset_inRange (h : s.head.bitoffset.toNat < s.disk.trackLength s.head.halftrack) : s.checkOffset = s := by
  simp [State.checkOffset, h]

/-- The check leaves everything but the offset and the diagnostics. -/
theorem checkOffset_frame (s : State) :
    ∃ b ms d, s.checkOffset = { s with head := { s.head with bitoffset := b }, messages := ms, diagnosed := d } := by
  exact recover_keeps
    (P := fun t => ∃ b ms d, t = { s with head := { s.head with bitoffset := b }, messages := ms, diagnosed := d })
    ⟨_, _, _, rfl⟩ fun _ => ⟨_, _, _, rfl⟩

/-- After the check the offset is inside the half-track under the head, unless that is empty. -/
theorem checkOffset_range (h : 0 < s.disk.trackLength s.head.halftrack) :
    s.checkOffset.head.bitoffset.toNat < s.disk.trackLength s.head.halftrack := by
  by_cases hi : s.head.bitoffset.toNat < s.disk.trackLength s.head.halftrack
  · rwa [checkOffset_inRange hi]
  · have hl : s.disk.trackLength s.head.halftrack < 65536 := (s.disk.track s.head.halftrack).length.isLt
    have hm := Nat.mod_lt s.head.bitoffset.toNat h
    have hb : s.head.bitoffset.toNat % s.disk.trackLength s.head.halftrack < 2 ^ 16 := by omega
    have hne : s.disk.trackLength s.head.halftrack ≠ 0 := by omega
    simp only [State.checkOffset, hi, decide_false, State.recover, Bool.false_eq_true, if_false, State.raise, State.put, hne,
      BitVec.toNat_ofNat, Nat.mod_eq_of_lt hb]
    exact hm

/-- R1130: the head moves exactly on a phase one up below half-track 84 or one down above half-track 1. -/
theorem stepTarget_isSome (h : Head) (p : BitVec 2) : (stepTarget h p).isSome = true ↔
    (p.toNat = (h.stepperPhase.toNat + 1) % 4 ∧ h.halftrack.val < 83) ∨
      (p.toNat = (h.stepperPhase.toNat + 3) % 4 ∧ 0 < h.halftrack.val) := by
  have up : ∀ p q : BitVec 2, p.toNat = (q.toNat + 1) % 4 ↔ p = q + 1 := by decide
  have down : ∀ p q : BitVec 2, p.toNat = (q.toNat + 3) % 4 ↔ p = q - 1 := by decide
  have lo : 0 < h.halftrack.val ↔ 0 < h.halftrack := Iff.rfl
  have hi : h.halftrack.val < 83 ↔ h.halftrack < 83 := Iff.rfl
  rw [up, down, lo, hi]
  unfold stepTarget
  split
  · simp_all
  · split <;> simp_all

/-- A level that does not move the head has nothing checked. -/
theorem checkStep_still {pb : Byte} (h : stepTarget s.head (field pb 0 2) = none) : s.checkStep pb = s := by
  simp [State.checkStep, h]

/-- The check leaves everything but the offset and the diagnostics. -/
theorem checkStep_frame (s : State) (pb : Byte) :
    ∃ b ms d, s.checkStep pb = { s with head := { s.head with bitoffset := b }, messages := ms, diagnosed := d } := by
  unfold State.checkStep
  split
  · exact checkOffset_frame s
  · exact ⟨_, _, _, rfl⟩

/-- VIA2: the head sees a change of port B's output, with its offset checked before a step. -/
theorem updateVia_via2 :
    s.updateVia .via2 x =
      if viaPbOut x = viaPbOut s.via2 then { s with via2 := x }
      else
        let t := s.checkStep (viaPbOut x)
        { t with via2 := x, head := headSees t.disk t.head (viaPbOut x) } := rfl

@[simp] theorem updateVia_via (s : State) (v : ViaId) (x : Via) : (s.updateVia v x).via v = x := by
  cases v
  · rw [updateVia_via1]; rfl
  · rw [updateVia_via2]; split <;> rfl

/-- An access leaves the chip as given, and its line follows from its flags (R1000). -/
theorem viaAccess_eq (s : State) (v : ViaId) (x : Via) :
    s.viaAccess v x = (s.updateVia v x).driveLine (.via v) (viaIrqCondition x) := by
  simp [State.viaAccess, State.updateViaIrq]

/-! ### The raster compare -/

/-- R761 as one record update: the compare is made where it has passed, and bit 0 of `irr` rises where it fires. -/
theorem rasterCompareOnWrite_passed (h : s.vic.compareCyclePassed = true) :
    s.rasterCompareOnWrite.vic.rasterMatchLatched = (s.vic.yCounter == s.vic.rasterIrqLine.setWidth 32) := by
  simp only [State.rasterCompareOnWrite, h, if_true]
  split <;> rfl

theorem rasterCompareOnWrite_early (h : s.vic.compareCyclePassed = false) : s.rasterCompareOnWrite = s := by
  simp [State.rasterCompareOnWrite, h]

/-! ### Bus words -/

/-- A word that decodes runs its operation. -/
theorem runWord_of_decode {ex : Meaning} {b : BusWord} {i : Instr} (h : decode b = .ok i) : runWord ex b s = ex i s := by
  simp [runWord, h]

/-- A run word that ends in a next state ran some operation. -/
theorem runWord_next {ex : Meaning} {b : BusWord} (h : runWord ex b s = .next t) :
    ∃ i, decode b = .ok i ∧ ex i s = .next t := by
  unfold runWord at h
  split at h
  · exact ⟨_, ‹_›, h⟩
  · cases h

/-! ### CIA interrupt mask -/

/-- R532 as one record update. -/
theorem writeImr_eq (x : Cia) (d : Byte) :
    let m := if bit d 7 then x.imr ||| (d &&& 0x1f) else x.imr &&& ~~~ (d &&& 0x1f)
    x.writeImr d = { x with
      imr := m
      delay :=
        if x.icr &&& m &&& 0x1f = 0 then
          withBit (withBit (withBit (withBit x.delay dInterrupt0 false) dInterrupt1 false) dSetIcr0 false) dSetIcr1 false
        else if x.int then x.delay
        else withBit (withBit x.delay dInterrupt0 true) dSetIcr0 true } := by
  intro m
  by_cases h : x.icr &&& m &&& 0x1f = 0
  · rw [if_pos h]; exact if_pos h
  · rw [if_neg h]
    refine (if_neg h).trans ?_
    cases hi : x.int <;> rfl

/-! ### Sprite slots -/

/-- A sprite access that ends in a next state was made in a slot of its sprite. -/
theorem inSlot_next {o : Option (Fin 8)} {f : Fin 8 → State} (h : inSlot o f = .next t) : ∃ n, o = some n ∧ t = f n := by
  cases o with
  | none => cases h
  | some n => exact ⟨n, rfl, (next_injective h).symm⟩

/-- Where the table schedules p or s2, the sprite is the one its phi1 column names. -/
theorem phi1Sprite_of_row {row : CycleRow} {n : Fin 8} (h : s.row? = some row) (hn : row.phi1 = .p n ∨ row.phi1 = .s2 n) :
    s.phi1Sprite = some n := by
  rcases hn with hn | hn <;> simp [State.phi1Sprite, h, hn]

/-- Where the table schedules s1 or s3, the sprite is the one its phi2 column names. -/
theorem phi2Sprite_of_row {row : CycleRow} {n : Fin 8} (h : s.row? = some row) (hn : row.phi2 = .s1 n ∨ row.phi2 = .s3 n) :
    s.phi2Sprite = some n := by
  rcases hn with hn | hn <;> simp [State.phi2Sprite, h, hn]

/-- A phi2 access leaves everything but the address bus and the draws. -/
theorem phi2Byte_frame (s : State) (a : BitVec 14) :
    (s.phi2Byte a).2 = { s with vicAddr := (s.phi2Byte a).2.vicAddr, draws := (s.phi2Byte a).2.draws } := by
  unfold State.phi2Byte
  split <;> rfl

/-! ### Messages -/

/-- R441: at most 64 messages wait. -/
theorem putMessage_length {q : List Message} {m : Message} (h : q.length ≤ messageCapacity) :
    (putMessage q m).length ≤ messageCapacity := by
  unfold putMessage
  split <;> simp [messageCapacity] at * <;> omega

/-! ### The ranges of the VIC -/

/-- R102: a raster cycle of the line is left as it is. -/
theorem checkRasterCycle_inRange (h : 1 ≤ s.vic.rasterCycle ∧ s.vic.rasterCycle ≤ cyclesPerLine s.cfg) : s.checkRasterCycle = s := by
  simp [State.checkRasterCycle, h]

/-- After the check the raster cycle is one of the line. -/
theorem checkRasterCycle_range (s : State) :
    1 ≤ s.checkRasterCycle.vic.rasterCycle ∧ s.checkRasterCycle.vic.rasterCycle ≤ cyclesPerLine s.cfg := by
  by_cases h : 1 ≤ s.vic.rasterCycle ∧ s.vic.rasterCycle ≤ cyclesPerLine s.cfg
  · rwa [checkRasterCycle_inRange h]
  · have : (1 : Nat) ≤ cyclesPerLine s.cfg := by unfold cyclesPerLine; split <;> decide
    simpa [State.checkRasterCycle, h, State.raise, State.put] using clamp_le this

/-- The check leaves everything but the VIC and the diagnostics. -/
theorem checkRasterCycle_frame (s : State) :
    ∃ v ms d, s.checkRasterCycle = { s with vic := v, messages := ms, diagnosed := d } :=
  recover_keeps (P := fun t => ∃ v ms d, t = { s with vic := v, messages := ms, diagnosed := d }) ⟨_, _, _, rfl⟩ fun _ => ⟨_, _, _, rfl⟩

/-- R701, R702: every cycle of a line has its entry. -/
theorem entryOr_of_row {cfg : Config} {table : Nat → Option CycleRow} {c : Nat} (h : cycleRow? cfg = some table)
    (hc : 1 ≤ c ∧ c ≤ cyclesPerLine cfg) : table c = some (entryOr table c) := by
  suffices ∃ row, table c = some row by
    obtain ⟨row, hr⟩ := this
    simp [entryOr, hr]
  unfold cycleRow? cyclesPerLine at *
  cases hv : cfg.vicRevision <;> simp only [hv] at h hc
  · obtain rfl := Option.some.inj h
    exact ⟨_, if_pos hc⟩
  · split at h
    · cases h
    · rename_i t _
      split at h
      · rename_i ha
        obtain rfl := Option.some.inj h
        have hl : t.rows.length = 65 := by simp [ntscAgrees] at ha; exact ha.1
        simp only [show c ≠ 0 by omega, if_false]
        exact ⟨_, List.getElem?_eq_getElem (by omega)⟩
      · cases h

/-- The check of a VIC in its ranges does nothing. -/
theorem checkVic_inRange (h : s.vic.inRange s.cfg = true) : s.checkVic = s := by simp [State.checkVic, h]

/-- The check leaves everything but the VIC and the diagnostics. -/
theorem checkVic_frame (s : State) : ∃ v ms d, s.checkVic = { s with vic := v, messages := ms, diagnosed := d } :=
  recover_keeps (P := fun t => ∃ v ms d, t = { s with vic := v, messages := ms, diagnosed := d }) ⟨_, _, _, rfl⟩ fun _ => ⟨_, _, _, rfl⟩

/-! ### The clock around the operations -/

/-- A range check leaves everything but its chip and the diagnostics. -/
theorem checkCia_frame (s : State) (c : CiaId) :
    ∃ x ms d, s.checkCia c = { s.setCia c x with messages := ms, diagnosed := d } :=
  recover_keeps (P := fun t => ∃ x ms d, t = { s.setCia c x with messages := ms, diagnosed := d })
    ⟨s.cia c, s.messages, s.diagnosed, by cases c <;> rfl⟩ fun _ => ⟨_, _, _, rfl⟩

/-- A CIA tick leaves everything but its chip, its line and the diagnostics. -/
theorem ciaTick_frame (s : State) (c : CiaId) :
    ∃ x l ms d, s.ciaTick c = { s.setCia c x with lines := l, messages := ms, diagnosed := d } := by
  obtain ⟨x, ms, d, h⟩ := checkCia_frame s c
  unfold State.ciaTick
  rw [h]
  dsimp only
  split <;> cases c <;> exact ⟨_, _, _, _, rfl⟩

/-- The check leaves everything but its chip and the diagnostics. -/
theorem checkVia_frame (s : State) (v : ViaId) :
    ∃ x ms d, s.checkVia v = { s.setViaFields v x with messages := ms, diagnosed := d } :=
  recover_keeps (P := fun t => ∃ x ms d, t = { s.setViaFields v x with messages := ms, diagnosed := d })
    ⟨s.via v, s.messages, s.diagnosed, by cases v <;> rfl⟩ fun _ => ⟨_, _, _, rfl⟩

/-- The check leaves everything but the bit timer and the diagnostics. -/
theorem checkHead_frame (s : State) :
    ∃ b ms d, s.checkHead = { s with head := { s.head with bitReadyTimer := b }, messages := ms, diagnosed := d } :=
  recover_keeps (P := fun t => ∃ b ms d, t = { s with head := { s.head with bitReadyTimer := b }, messages := ms, diagnosed := d })
    ⟨_, _, _, rfl⟩ fun _ => ⟨_, _, _, rfl⟩

/-- R1110: a bit timer in its range is left as it is. -/
theorem checkHead_inRange (h : -3 ≤ s.head.bitReadyTimer.toInt ∧ s.head.bitReadyTimer.toInt ≤ 16) : s.checkHead = s := by
  have h' : max (-3) (min s.head.bitReadyTimer.toInt 16) = s.head.bitReadyTimer.toInt := by omega
  simp [State.checkHead, Head.clamped, h']

/-- The IEC update changes the bus alone. -/
theorem iecStep_frame (s : State) : s.iecStep = { s with iec := s.iecStep.iec } := by
  unfold State.iecStep
  split <;> rfl

/-- The raster compare changes the VIC and its line alone. -/
theorem rasterCompare_frame (s : State) : ∃ v l, s.rasterCompare = { s with vic := v, lines := l } := by
  unfold State.rasterCompare
  generalize (s.vic.yCounter == s.vic.rasterIrqLine.setWidth 32) = m
  cases m <;> exact ⟨_, _, rfl⟩

/-- The VIC's work before its accesses changes the VIC, its line and the diagnostics alone. -/
theorem vicBeforeAccess_frame (s : State) (row : CycleRow) :
    ∃ v l ms d, s.vicBeforeAccess row = { s with vic := v, lines := l, messages := ms, diagnosed := d } := by
  obtain ⟨w, ms, d, hw⟩ := checkVic_frame s
  unfold State.vicBeforeAccess
  rw [hw]
  dsimp only
  generalize Vic.badLineStep _ = v
  obtain ⟨v', l', h⟩ := rasterCompare_frame { s with vic := v, messages := ms, diagnosed := d }
  split
  · rw [h]; exact ⟨_, _, _, _, rfl⟩
  · exact ⟨_, _, _, _, rfl⟩

theorem vicAfterAccess_frame (s : State) : s.vicAfterAccess = { s with vic := s.vicAfterAccess.vic } := rfl

end Sys2Proof.Machine
end

