-- ==== Sys2Proof/Laws/PerInstr.lean ====
section
/-!
SUPPORT. The per-instruction family WordFits: the word an operation is presented as fits its format's width (spec/30_encoding.md
R300).
-/

namespace Sys2Proof.Laws.WordFits

/-- The word of a bus word fits the width of its port. -/
abbrev Fits (b : BusWord) : Prop := b.word.toNat < 2 ^ b.port.width

/-- R300: a well-formed operation's word has no bit above its format's width. -/
def Statement (i : Instr) : Prop := i.wellFormed = true → Fits (encode i)

/-- R305: the data byte of a write is no part of its word. -/
theorem of_data {f : Byte → Instr} (hf : ∀ d, encode (f d) = { encode (f 0) with data := d }) (h : Fits (encode (f 0)))
    (d : Byte) : Statement (f d) := fun _ => by
  unfold Fits
  rw [hf d]
  exact h

/-- R307: the sprite field, by its eight values; `f` may carry a data byte. -/
theorem of_sprites {f : Nat → Instr} (hf : ∀ n, (f n).wellFormed = decide (n < 8)) (h : ∀ n : Fin 8, Fits (encode (f n)))
    (n : Nat) : Statement (f n) :=
  fun hw => h ⟨n, by simpa [hf] using hw⟩

theorem rVicMnX (n : Nat) : Statement (.rVicMnX n) :=
  of_sprites (f := .rVicMnX) (fun _ => rfl) (by decide) n
theorem rVicMnY (n : Nat) : Statement (.rVicMnY n) :=
  of_sprites (f := .rVicMnY) (fun _ => rfl) (by decide) n
theorem rVicMsbx : Statement (.rVicMsbx) := fun _ => by decide
theorem rVicCr1 : Statement (.rVicCr1) := fun _ => by decide
theorem rVicRaster : Statement (.rVicRaster) := fun _ => by decide
theorem rVicLpx : Statement (.rVicLpx) := fun _ => by decide
theorem rVicLpy : Statement (.rVicLpy) := fun _ => by decide
theorem rVicMxe : Statement (.rVicMxe) := fun _ => by decide
theorem rVicCr2 : Statement (.rVicCr2) := fun _ => by decide
theorem rVicMxye : Statement (.rVicMxye) := fun _ => by decide
theorem rVicMemptr : Statement (.rVicMemptr) := fun _ => by decide
theorem rVicIrr : Statement (.rVicIrr) := fun _ => by decide
theorem rVicImr : Statement (.rVicImr) := fun _ => by decide
theorem rVicMxdp : Statement (.rVicMxdp) := fun _ => by decide
theorem rVicMxmc : Statement (.rVicMxmc) := fun _ => by decide
theorem rVicMxxe : Statement (.rVicMxxe) := fun _ => by decide
theorem rVicMm : Statement (.rVicMm) := fun _ => by decide
theorem rVicMd : Statement (.rVicMd) := fun _ => by decide
theorem rVicEc : Statement (.rVicEc) := fun _ => by decide
theorem rVicB0c : Statement (.rVicB0c) := fun _ => by decide
theorem rVicB1c : Statement (.rVicB1c) := fun _ => by decide
theorem rVicB2c : Statement (.rVicB2c) := fun _ => by decide
theorem rVicB3c : Statement (.rVicB3c) := fun _ => by decide
theorem rVicMm0 : Statement (.rVicMm0) := fun _ => by decide
theorem rVicMm1 : Statement (.rVicMm1) := fun _ => by decide
theorem rVicM0c : Statement (.rVicM0c) := fun _ => by decide
theorem rVicM1c : Statement (.rVicM1c) := fun _ => by decide
theorem rVicM2c : Statement (.rVicM2c) := fun _ => by decide
theorem rVicM3c : Statement (.rVicM3c) := fun _ => by decide
theorem rVicM4c : Statement (.rVicM4c) := fun _ => by decide
theorem rVicM5c : Statement (.rVicM5c) := fun _ => by decide
theorem rVicM6c : Statement (.rVicM6c) := fun _ => by decide
theorem rVicM7c : Statement (.rVicM7c) := fun _ => by decide
theorem rVicUnused2F : Statement (.rVicUnused2F) := fun _ => by decide
theorem rVicUnused30 : Statement (.rVicUnused30) := fun _ => by decide
theorem rVicUnused31 : Statement (.rVicUnused31) := fun _ => by decide
theorem rVicUnused32 : Statement (.rVicUnused32) := fun _ => by decide
theorem rVicUnused33 : Statement (.rVicUnused33) := fun _ => by decide
theorem rVicUnused34 : Statement (.rVicUnused34) := fun _ => by decide
theorem rVicUnused35 : Statement (.rVicUnused35) := fun _ => by decide
theorem rVicUnused36 : Statement (.rVicUnused36) := fun _ => by decide
theorem rVicUnused37 : Statement (.rVicUnused37) := fun _ => by decide
theorem rVicUnused38 : Statement (.rVicUnused38) := fun _ => by decide
theorem rVicUnused39 : Statement (.rVicUnused39) := fun _ => by decide
theorem rVicUnused3A : Statement (.rVicUnused3A) := fun _ => by decide
theorem rVicUnused3B : Statement (.rVicUnused3B) := fun _ => by decide
theorem rVicUnused3C : Statement (.rVicUnused3C) := fun _ => by decide
theorem rVicUnused3D : Statement (.rVicUnused3D) := fun _ => by decide
theorem rVicUnused3E : Statement (.rVicUnused3E) := fun _ => by decide
theorem rVicUnused3F : Statement (.rVicUnused3F) := fun _ => by decide
theorem wVicMnX (n : Nat) (d : Byte) : Statement (.wVicMnX n d) :=
  of_sprites (f := fun n => .wVicMnX n d) (fun _ => rfl)
    (show ∀ n : Fin 8, Fits { encode (.wVicMnX n 0) with data := 0 } from by decide) n
theorem wVicMnY (n : Nat) (d : Byte) : Statement (.wVicMnY n d) :=
  of_sprites (f := fun n => .wVicMnY n d) (fun _ => rfl)
    (show ∀ n : Fin 8, Fits { encode (.wVicMnY n 0) with data := 0 } from by decide) n
theorem wVicMsbx (d : Byte) : Statement (.wVicMsbx d) :=
  of_data (f := .wVicMsbx) (fun _ => rfl) (by decide) d
theorem wVicCr1 (d : Byte) : Statement (.wVicCr1 d) :=
  of_data (f := .wVicCr1) (fun _ => rfl) (by decide) d
theorem wVicRaster (d : Byte) : Statement (.wVicRaster d) :=
  of_data (f := .wVicRaster) (fun _ => rfl) (by decide) d
theorem wVicLpx (d : Byte) : Statement (.wVicLpx d) :=
  of_data (f := .wVicLpx) (fun _ => rfl) (by decide) d
theorem wVicLpy (d : Byte) : Statement (.wVicLpy d) :=
  of_data (f := .wVicLpy) (fun _ => rfl) (by decide) d
theorem wVicMxe (d : Byte) : Statement (.wVicMxe d) :=
  of_data (f := .wVicMxe) (fun _ => rfl) (by decide) d
theorem wVicCr2 (d : Byte) : Statement (.wVicCr2 d) :=
  of_data (f := .wVicCr2) (fun _ => rfl) (by decide) d
theorem wVicMxye (d : Byte) : Statement (.wVicMxye d) :=
  of_data (f := .wVicMxye) (fun _ => rfl) (by decide) d
theorem wVicMemptr (d : Byte) : Statement (.wVicMemptr d) :=
  of_data (f := .wVicMemptr) (fun _ => rfl) (by decide) d
theorem wVicIrr (d : Byte) : Statement (.wVicIrr d) :=
  of_data (f := .wVicIrr) (fun _ => rfl) (by decide) d
theorem wVicImr (d : Byte) : Statement (.wVicImr d) :=
  of_data (f := .wVicImr) (fun _ => rfl) (by decide) d
theorem wVicMxdp (d : Byte) : Statement (.wVicMxdp d) :=
  of_data (f := .wVicMxdp) (fun _ => rfl) (by decide) d
theorem wVicMxmc (d : Byte) : Statement (.wVicMxmc d) :=
  of_data (f := .wVicMxmc) (fun _ => rfl) (by decide) d
theorem wVicMxxe (d : Byte) : Statement (.wVicMxxe d) :=
  of_data (f := .wVicMxxe) (fun _ => rfl) (by decide) d
theorem wVicMm (d : Byte) : Statement (.wVicMm d) :=
  of_data (f := .wVicMm) (fun _ => rfl) (by decide) d
theorem wVicMd (d : Byte) : Statement (.wVicMd d) :=
  of_data (f := .wVicMd) (fun _ => rfl) (by decide) d
theorem wVicEc (d : Byte) : Statement (.wVicEc d) :=
  of_data (f := .wVicEc) (fun _ => rfl) (by decide) d
theorem wVicB0c (d : Byte) : Statement (.wVicB0c d) :=
  of_data (f := .wVicB0c) (fun _ => rfl) (by decide) d
theorem wVicB1c (d : Byte) : Statement (.wVicB1c d) :=
  of_data (f := .wVicB1c) (fun _ => rfl) (by decide) d
theorem wVicB2c (d : Byte) : Statement (.wVicB2c d) :=
  of_data (f := .wVicB2c) (fun _ => rfl) (by decide) d
theorem wVicB3c (d : Byte) : Statement (.wVicB3c d) :=
  of_data (f := .wVicB3c) (fun _ => rfl) (by decide) d
theorem wVicMm0 (d : Byte) : Statement (.wVicMm0 d) :=
  of_data (f := .wVicMm0) (fun _ => rfl) (by decide) d
theorem wVicMm1 (d : Byte) : Statement (.wVicMm1 d) :=
  of_data (f := .wVicMm1) (fun _ => rfl) (by decide) d
theorem wVicM0c (d : Byte) : Statement (.wVicM0c d) :=
  of_data (f := .wVicM0c) (fun _ => rfl) (by decide) d
theorem wVicM1c (d : Byte) : Statement (.wVicM1c d) :=
  of_data (f := .wVicM1c) (fun _ => rfl) (by decide) d
theorem wVicM2c (d : Byte) : Statement (.wVicM2c d) :=
  of_data (f := .wVicM2c) (fun _ => rfl) (by decide) d
theorem wVicM3c (d : Byte) : Statement (.wVicM3c d) :=
  of_data (f := .wVicM3c) (fun _ => rfl) (by decide) d
theorem wVicM4c (d : Byte) : Statement (.wVicM4c d) :=
  of_data (f := .wVicM4c) (fun _ => rfl) (by decide) d
theorem wVicM5c (d : Byte) : Statement (.wVicM5c d) :=
  of_data (f := .wVicM5c) (fun _ => rfl) (by decide) d
theorem wVicM6c (d : Byte) : Statement (.wVicM6c d) :=
  of_data (f := .wVicM6c) (fun _ => rfl) (by decide) d
theorem wVicM7c (d : Byte) : Statement (.wVicM7c d) :=
  of_data (f := .wVicM7c) (fun _ => rfl) (by decide) d
theorem wVicUnused2F (d : Byte) : Statement (.wVicUnused2F d) :=
  of_data (f := .wVicUnused2F) (fun _ => rfl) (by decide) d
theorem wVicUnused30 (d : Byte) : Statement (.wVicUnused30 d) :=
  of_data (f := .wVicUnused30) (fun _ => rfl) (by decide) d
theorem wVicUnused31 (d : Byte) : Statement (.wVicUnused31 d) :=
  of_data (f := .wVicUnused31) (fun _ => rfl) (by decide) d
theorem wVicUnused32 (d : Byte) : Statement (.wVicUnused32 d) :=
  of_data (f := .wVicUnused32) (fun _ => rfl) (by decide) d
theorem wVicUnused33 (d : Byte) : Statement (.wVicUnused33 d) :=
  of_data (f := .wVicUnused33) (fun _ => rfl) (by decide) d
theorem wVicUnused34 (d : Byte) : Statement (.wVicUnused34 d) :=
  of_data (f := .wVicUnused34) (fun _ => rfl) (by decide) d
theorem wVicUnused35 (d : Byte) : Statement (.wVicUnused35 d) :=
  of_data (f := .wVicUnused35) (fun _ => rfl) (by decide) d
theorem wVicUnused36 (d : Byte) : Statement (.wVicUnused36 d) :=
  of_data (f := .wVicUnused36) (fun _ => rfl) (by decide) d
theorem wVicUnused37 (d : Byte) : Statement (.wVicUnused37 d) :=
  of_data (f := .wVicUnused37) (fun _ => rfl) (by decide) d
theorem wVicUnused38 (d : Byte) : Statement (.wVicUnused38 d) :=
  of_data (f := .wVicUnused38) (fun _ => rfl) (by decide) d
theorem wVicUnused39 (d : Byte) : Statement (.wVicUnused39 d) :=
  of_data (f := .wVicUnused39) (fun _ => rfl) (by decide) d
theorem wVicUnused3A (d : Byte) : Statement (.wVicUnused3A d) :=
  of_data (f := .wVicUnused3A) (fun _ => rfl) (by decide) d
theorem wVicUnused3B (d : Byte) : Statement (.wVicUnused3B d) :=
  of_data (f := .wVicUnused3B) (fun _ => rfl) (by decide) d
theorem wVicUnused3C (d : Byte) : Statement (.wVicUnused3C d) :=
  of_data (f := .wVicUnused3C) (fun _ => rfl) (by decide) d
theorem wVicUnused3D (d : Byte) : Statement (.wVicUnused3D d) :=
  of_data (f := .wVicUnused3D) (fun _ => rfl) (by decide) d
theorem wVicUnused3E (d : Byte) : Statement (.wVicUnused3E d) :=
  of_data (f := .wVicUnused3E) (fun _ => rfl) (by decide) d
theorem wVicUnused3F (d : Byte) : Statement (.wVicUnused3F d) :=
  of_data (f := .wVicUnused3F) (fun _ => rfl) (by decide) d
theorem rCiaPra (c : CiaId) : Statement (.rCiaPra c) := fun _ => by cases c <;> decide
theorem rCiaPrb (c : CiaId) : Statement (.rCiaPrb c) := fun _ => by cases c <;> decide
theorem rCiaDdra (c : CiaId) : Statement (.rCiaDdra c) := fun _ => by cases c <;> decide
theorem rCiaDdrb (c : CiaId) : Statement (.rCiaDdrb c) := fun _ => by cases c <;> decide
theorem rCiaTaLo (c : CiaId) : Statement (.rCiaTaLo c) := fun _ => by cases c <;> decide
theorem rCiaTaHi (c : CiaId) : Statement (.rCiaTaHi c) := fun _ => by cases c <;> decide
theorem rCiaTbLo (c : CiaId) : Statement (.rCiaTbLo c) := fun _ => by cases c <;> decide
theorem rCiaTbHi (c : CiaId) : Statement (.rCiaTbHi c) := fun _ => by cases c <;> decide
theorem rCiaTod10ths (c : CiaId) : Statement (.rCiaTod10ths c) := fun _ => by cases c <;> decide
theorem rCiaTodSec (c : CiaId) : Statement (.rCiaTodSec c) := fun _ => by cases c <;> decide
theorem rCiaTodMin (c : CiaId) : Statement (.rCiaTodMin c) := fun _ => by cases c <;> decide
theorem rCiaTodHrs (c : CiaId) : Statement (.rCiaTodHrs c) := fun _ => by cases c <;> decide
theorem rCiaSdr (c : CiaId) : Statement (.rCiaSdr c) := fun _ => by cases c <;> decide
theorem rCiaIcr (c : CiaId) : Statement (.rCiaIcr c) := fun _ => by cases c <;> decide
theorem rCiaCra (c : CiaId) : Statement (.rCiaCra c) := fun _ => by cases c <;> decide
theorem rCiaCrb (c : CiaId) : Statement (.rCiaCrb c) := fun _ => by cases c <;> decide
theorem wCiaPra (c : CiaId) (d : Byte) : Statement (.wCiaPra c d) :=
  of_data (f := .wCiaPra c) (fun _ => rfl) (by cases c <;> decide) d
theorem wCiaPrb (c : CiaId) (d : Byte) : Statement (.wCiaPrb c d) :=
  of_data (f := .wCiaPrb c) (fun _ => rfl) (by cases c <;> decide) d
theorem wCiaDdra (c : CiaId) (d : Byte) : Statement (.wCiaDdra c d) :=
  of_data (f := .wCiaDdra c) (fun _ => rfl) (by cases c <;> decide) d
theorem wCiaDdrb (c : CiaId) (d : Byte) : Statement (.wCiaDdrb c d) :=
  of_data (f := .wCiaDdrb c) (fun _ => rfl) (by cases c <;> decide) d
theorem wCiaTaLo (c : CiaId) (d : Byte) : Statement (.wCiaTaLo c d) :=
  of_data (f := .wCiaTaLo c) (fun _ => rfl) (by cases c <;> decide) d
theorem wCiaTaHi (c : CiaId) (d : Byte) : Statement (.wCiaTaHi c d) :=
  of_data (f := .wCiaTaHi c) (fun _ => rfl) (by cases c <;> decide) d
theorem wCiaTbLo (c : CiaId) (d : Byte) : Statement (.wCiaTbLo c d) :=
  of_data (f := .wCiaTbLo c) (fun _ => rfl) (by cases c <;> decide) d
theorem wCiaTbHi (c : CiaId) (d : Byte) : Statement (.wCiaTbHi c d) :=
  of_data (f := .wCiaTbHi c) (fun _ => rfl) (by cases c <;> decide) d
theorem wCiaTod10ths (c : CiaId) (d : Byte) : Statement (.wCiaTod10ths c d) :=
  of_data (f := .wCiaTod10ths c) (fun _ => rfl) (by cases c <;> decide) d
theorem wCiaTodSec (c : CiaId) (d : Byte) : Statement (.wCiaTodSec c d) :=
  of_data (f := .wCiaTodSec c) (fun _ => rfl) (by cases c <;> decide) d
theorem wCiaTodMin (c : CiaId) (d : Byte) : Statement (.wCiaTodMin c d) :=
  of_data (f := .wCiaTodMin c) (fun _ => rfl) (by cases c <;> decide) d
theorem wCiaTodHrs (c : CiaId) (d : Byte) : Statement (.wCiaTodHrs c d) :=
  of_data (f := .wCiaTodHrs c) (fun _ => rfl) (by cases c <;> decide) d
theorem wCiaSdr (c : CiaId) (d : Byte) : Statement (.wCiaSdr c d) :=
  of_data (f := .wCiaSdr c) (fun _ => rfl) (by cases c <;> decide) d
theorem wCiaIcr (c : CiaId) (d : Byte) : Statement (.wCiaIcr c d) :=
  of_data (f := .wCiaIcr c) (fun _ => rfl) (by cases c <;> decide) d
theorem wCiaCra (c : CiaId) (d : Byte) : Statement (.wCiaCra c d) :=
  of_data (f := .wCiaCra c) (fun _ => rfl) (by cases c <;> decide) d
theorem wCiaCrb (c : CiaId) (d : Byte) : Statement (.wCiaCrb c d) :=
  of_data (f := .wCiaCrb c) (fun _ => rfl) (by cases c <;> decide) d
theorem rViaOrb (v : ViaId) : Statement (.rViaOrb v) := fun _ => by cases v <;> decide
theorem rViaOra (v : ViaId) : Statement (.rViaOra v) := fun _ => by cases v <;> decide
theorem rViaDdrb (v : ViaId) : Statement (.rViaDdrb v) := fun _ => by cases v <;> decide
theorem rViaDdra (v : ViaId) : Statement (.rViaDdra v) := fun _ => by cases v <;> decide
theorem rViaT1cl (v : ViaId) : Statement (.rViaT1cl v) := fun _ => by cases v <;> decide
theorem rViaT1ch (v : ViaId) : Statement (.rViaT1ch v) := fun _ => by cases v <;> decide
theorem rViaT1ll (v : ViaId) : Statement (.rViaT1ll v) := fun _ => by cases v <;> decide
theorem rViaT1lh (v : ViaId) : Statement (.rViaT1lh v) := fun _ => by cases v <;> decide
theorem rViaT2cl (v : ViaId) : Statement (.rViaT2cl v) := fun _ => by cases v <;> decide
theorem rViaT2ch (v : ViaId) : Statement (.rViaT2ch v) := fun _ => by cases v <;> decide
theorem rViaSr (v : ViaId) : Statement (.rViaSr v) := fun _ => by cases v <;> decide
theorem rViaAcr (v : ViaId) : Statement (.rViaAcr v) := fun _ => by cases v <;> decide
theorem rViaPcr (v : ViaId) : Statement (.rViaPcr v) := fun _ => by cases v <;> decide
theorem rViaIfr (v : ViaId) : Statement (.rViaIfr v) := fun _ => by cases v <;> decide
theorem rViaIer (v : ViaId) : Statement (.rViaIer v) := fun _ => by cases v <;> decide
theorem rViaOraNh (v : ViaId) : Statement (.rViaOraNh v) := fun _ => by cases v <;> decide
theorem wViaOrb (v : ViaId) (d : Byte) : Statement (.wViaOrb v d) :=
  of_data (f := .wViaOrb v) (fun _ => rfl) (by cases v <;> decide) d
theorem wViaOra (v : ViaId) (d : Byte) : Statement (.wViaOra v d) :=
  of_data (f := .wViaOra v) (fun _ => rfl) (by cases v <;> decide) d
theorem wViaDdrb (v : ViaId) (d : Byte) : Statement (.wViaDdrb v d) :=
  of_data (f := .wViaDdrb v) (fun _ => rfl) (by cases v <;> decide) d
theorem wViaDdra (v : ViaId) (d : Byte) : Statement (.wViaDdra v d) :=
  of_data (f := .wViaDdra v) (fun _ => rfl) (by cases v <;> decide) d
theorem wViaT1cl (v : ViaId) (d : Byte) : Statement (.wViaT1cl v d) :=
  of_data (f := .wViaT1cl v) (fun _ => rfl) (by cases v <;> decide) d
theorem wViaT1ch (v : ViaId) (d : Byte) : Statement (.wViaT1ch v d) :=
  of_data (f := .wViaT1ch v) (fun _ => rfl) (by cases v <;> decide) d
theorem wViaT1ll (v : ViaId) (d : Byte) : Statement (.wViaT1ll v d) :=
  of_data (f := .wViaT1ll v) (fun _ => rfl) (by cases v <;> decide) d
theorem wViaT1lh (v : ViaId) (d : Byte) : Statement (.wViaT1lh v d) :=
  of_data (f := .wViaT1lh v) (fun _ => rfl) (by cases v <;> decide) d
theorem wViaT2cl (v : ViaId) (d : Byte) : Statement (.wViaT2cl v d) :=
  of_data (f := .wViaT2cl v) (fun _ => rfl) (by cases v <;> decide) d
theorem wViaT2ch (v : ViaId) (d : Byte) : Statement (.wViaT2ch v d) :=
  of_data (f := .wViaT2ch v) (fun _ => rfl) (by cases v <;> decide) d
theorem wViaSr (v : ViaId) (d : Byte) : Statement (.wViaSr v d) :=
  of_data (f := .wViaSr v) (fun _ => rfl) (by cases v <;> decide) d
theorem wViaAcr (v : ViaId) (d : Byte) : Statement (.wViaAcr v d) :=
  of_data (f := .wViaAcr v) (fun _ => rfl) (by cases v <;> decide) d
theorem wViaPcr (v : ViaId) (d : Byte) : Statement (.wViaPcr v d) :=
  of_data (f := .wViaPcr v) (fun _ => rfl) (by cases v <;> decide) d
theorem wViaIfr (v : ViaId) (d : Byte) : Statement (.wViaIfr v d) :=
  of_data (f := .wViaIfr v) (fun _ => rfl) (by cases v <;> decide) d
theorem wViaIer (v : ViaId) (d : Byte) : Statement (.wViaIer v d) :=
  of_data (f := .wViaIer v) (fun _ => rfl) (by cases v <;> decide) d
theorem wViaOraNh (v : ViaId) (d : Byte) : Statement (.wViaOraNh v d) :=
  of_data (f := .wViaOraNh v) (fun _ => rfl) (by cases v <;> decide) d
theorem vaR : Statement (.vaR) := fun _ => by decide
theorem vaI : Statement (.vaI) := fun _ => by decide
theorem vaG : Statement (.vaG) := fun _ => by decide
theorem vaP : Statement (.vaP) := fun _ => by decide
theorem vaS2 : Statement (.vaS2) := fun _ => by decide
theorem vaC : Statement (.vaC) := fun _ => by decide
theorem vaS1 : Statement (.vaS1) := fun _ => by decide
theorem vaS3 : Statement (.vaS3) := fun _ => by decide

end Sys2Proof.Laws.WordFits
end

