-- ==== Sys2Proof/Laws/State.lean ====
section
/-!
SUPPORT. One lemma per field per update of State, so that no proof unfolds a record update.
-/

namespace Sys2Proof.Machine

/-! ### `setCia` -/

@[simp] theorem setCia_cfg (s : State) (c : CiaId) (x : Cia) : (s.setCia c x).cfg = s.cfg := by cases c <;> rfl
@[simp] theorem setCia_cycle (s : State) (c : CiaId) (x : Cia) : (s.setCia c x).cycle = s.cycle := by cases c <;> rfl
@[simp] theorem setCia_frame (s : State) (c : CiaId) (x : Cia) : (s.setCia c x).frame = s.frame := by cases c <;> rfl
@[simp] theorem setCia_lines (s : State) (c : CiaId) (x : Cia) : (s.setCia c x).lines = s.lines := by cases c <;> rfl
@[simp] theorem setCia_driveTimeAcc (s : State) (c : CiaId) (x : Cia) : (s.setCia c x).driveTimeAcc = s.driveTimeAcc := by cases c <;> rfl
@[simp] theorem setCia_vic (s : State) (c : CiaId) (x : Cia) : (s.setCia c x).vic = s.vic := by cases c <;> rfl
@[simp] theorem setCia_via1 (s : State) (c : CiaId) (x : Cia) : (s.setCia c x).via1 = s.via1 := by cases c <;> rfl
@[simp] theorem setCia_via2 (s : State) (c : CiaId) (x : Cia) : (s.setCia c x).via2 = s.via2 := by cases c <;> rfl
@[simp] theorem setCia_disk (s : State) (c : CiaId) (x : Cia) : (s.setCia c x).disk = s.disk := by cases c <;> rfl
@[simp] theorem setCia_head (s : State) (c : CiaId) (x : Cia) : (s.setCia c x).head = s.head := by cases c <;> rfl
@[simp] theorem setCia_iec (s : State) (c : CiaId) (x : Cia) : (s.setCia c x).iec = s.iec := by cases c <;> rfl
@[simp] theorem setCia_ram (s : State) (c : CiaId) (x : Cia) : (s.setCia c x).ram = s.ram := by cases c <;> rfl
@[simp] theorem setCia_colorRam (s : State) (c : CiaId) (x : Cia) : (s.setCia c x).colorRam = s.colorRam := by cases c <;> rfl
@[simp] theorem setCia_hostQueue (s : State) (c : CiaId) (x : Cia) : (s.setCia c x).hostQueue = s.hostQueue := by cases c <;> rfl
@[simp] theorem setCia_driveQueue (s : State) (c : CiaId) (x : Cia) : (s.setCia c x).driveQueue = s.driveQueue := by cases c <;> rfl
@[simp] theorem setCia_hostOps (s : State) (c : CiaId) (x : Cia) : (s.setCia c x).hostOps = s.hostOps := by cases c <;> rfl
@[simp] theorem setCia_hostData (s : State) (c : CiaId) (x : Cia) : (s.setCia c x).hostData = s.hostData := by cases c <;> rfl
@[simp] theorem setCia_driveData (s : State) (c : CiaId) (x : Cia) : (s.setCia c x).driveData = s.driveData := by cases c <;> rfl
@[simp] theorem setCia_vicAddr (s : State) (c : CiaId) (x : Cia) : (s.setCia c x).vicAddr = s.vicAddr := by cases c <;> rfl
@[simp] theorem setCia_messages (s : State) (c : CiaId) (x : Cia) : (s.setCia c x).messages = s.messages := by cases c <;> rfl
@[simp] theorem setCia_diagnosed (s : State) (c : CiaId) (x : Cia) : (s.setCia c x).diagnosed = s.diagnosed := by cases c <;> rfl
@[simp] theorem setCia_soPulses (s : State) (c : CiaId) (x : Cia) : (s.setCia c x).soPulses = s.soPulses := by cases c <;> rfl
@[simp] theorem setCia_configureOk (s : State) (c : CiaId) (x : Cia) : (s.setCia c x).configureOk = s.configureOk := by cases c <;> rfl
@[simp] theorem setCia_draws (s : State) (c : CiaId) (x : Cia) : (s.setCia c x).draws = s.draws := by cases c <;> rfl

/-! ### `setViaFields` -/

@[simp] theorem setViaFields_cfg (s : State) (v : ViaId) (x : Via) : (s.setViaFields v x).cfg = s.cfg := by cases v <;> rfl
@[simp] theorem setViaFields_cycle (s : State) (v : ViaId) (x : Via) : (s.setViaFields v x).cycle = s.cycle := by cases v <;> rfl
@[simp] theorem setViaFields_frame (s : State) (v : ViaId) (x : Via) : (s.setViaFields v x).frame = s.frame := by cases v <;> rfl
@[simp] theorem setViaFields_lines (s : State) (v : ViaId) (x : Via) : (s.setViaFields v x).lines = s.lines := by cases v <;> rfl
@[simp] theorem setViaFields_driveTimeAcc (s : State) (v : ViaId) (x : Via) : (s.setViaFields v x).driveTimeAcc = s.driveTimeAcc := by cases v <;> rfl
@[simp] theorem setViaFields_vic (s : State) (v : ViaId) (x : Via) : (s.setViaFields v x).vic = s.vic := by cases v <;> rfl
@[simp] theorem setViaFields_cia1 (s : State) (v : ViaId) (x : Via) : (s.setViaFields v x).cia1 = s.cia1 := by cases v <;> rfl
@[simp] theorem setViaFields_cia2 (s : State) (v : ViaId) (x : Via) : (s.setViaFields v x).cia2 = s.cia2 := by cases v <;> rfl
@[simp] theorem setViaFields_disk (s : State) (v : ViaId) (x : Via) : (s.setViaFields v x).disk = s.disk := by cases v <;> rfl
@[simp] theorem setViaFields_head (s : State) (v : ViaId) (x : Via) : (s.setViaFields v x).head = s.head := by cases v <;> rfl
@[simp] theorem setViaFields_iec (s : State) (v : ViaId) (x : Via) : (s.setViaFields v x).iec = s.iec := by cases v <;> rfl
@[simp] theorem setViaFields_ram (s : State) (v : ViaId) (x : Via) : (s.setViaFields v x).ram = s.ram := by cases v <;> rfl
@[simp] theorem setViaFields_colorRam (s : State) (v : ViaId) (x : Via) : (s.setViaFields v x).colorRam = s.colorRam := by cases v <;> rfl
@[simp] theorem setViaFields_hostQueue (s : State) (v : ViaId) (x : Via) : (s.setViaFields v x).hostQueue = s.hostQueue := by cases v <;> rfl
@[simp] theorem setViaFields_driveQueue (s : State) (v : ViaId) (x : Via) : (s.setViaFields v x).driveQueue = s.driveQueue := by cases v <;> rfl
@[simp] theorem setViaFields_hostOps (s : State) (v : ViaId) (x : Via) : (s.setViaFields v x).hostOps = s.hostOps := by cases v <;> rfl
@[simp] theorem setViaFields_hostData (s : State) (v : ViaId) (x : Via) : (s.setViaFields v x).hostData = s.hostData := by cases v <;> rfl
@[simp] theorem setViaFields_driveData (s : State) (v : ViaId) (x : Via) : (s.setViaFields v x).driveData = s.driveData := by cases v <;> rfl
@[simp] theorem setViaFields_vicAddr (s : State) (v : ViaId) (x : Via) : (s.setViaFields v x).vicAddr = s.vicAddr := by cases v <;> rfl
@[simp] theorem setViaFields_messages (s : State) (v : ViaId) (x : Via) : (s.setViaFields v x).messages = s.messages := by cases v <;> rfl
@[simp] theorem setViaFields_diagnosed (s : State) (v : ViaId) (x : Via) : (s.setViaFields v x).diagnosed = s.diagnosed := by cases v <;> rfl
@[simp] theorem setViaFields_soPulses (s : State) (v : ViaId) (x : Via) : (s.setViaFields v x).soPulses = s.soPulses := by cases v <;> rfl
@[simp] theorem setViaFields_configureOk (s : State) (v : ViaId) (x : Via) : (s.setViaFields v x).configureOk = s.configureOk := by cases v <;> rfl
@[simp] theorem setViaFields_draws (s : State) (v : ViaId) (x : Via) : (s.setViaFields v x).draws = s.draws := by cases v <;> rfl

/-! ### `driveLine` -/

@[simp] theorem driveLine_cfg (s : State) (src : Source) (low : Bool) : (s.driveLine src low).cfg = s.cfg := rfl
@[simp] theorem driveLine_cycle (s : State) (src : Source) (low : Bool) : (s.driveLine src low).cycle = s.cycle := rfl
@[simp] theorem driveLine_frame (s : State) (src : Source) (low : Bool) : (s.driveLine src low).frame = s.frame := rfl
@[simp] theorem driveLine_driveTimeAcc (s : State) (src : Source) (low : Bool) : (s.driveLine src low).driveTimeAcc = s.driveTimeAcc := rfl
@[simp] theorem driveLine_vic (s : State) (src : Source) (low : Bool) : (s.driveLine src low).vic = s.vic := rfl
@[simp] theorem driveLine_cia1 (s : State) (src : Source) (low : Bool) : (s.driveLine src low).cia1 = s.cia1 := rfl
@[simp] theorem driveLine_cia2 (s : State) (src : Source) (low : Bool) : (s.driveLine src low).cia2 = s.cia2 := rfl
@[simp] theorem driveLine_via1 (s : State) (src : Source) (low : Bool) : (s.driveLine src low).via1 = s.via1 := rfl
@[simp] theorem driveLine_via2 (s : State) (src : Source) (low : Bool) : (s.driveLine src low).via2 = s.via2 := rfl
@[simp] theorem driveLine_disk (s : State) (src : Source) (low : Bool) : (s.driveLine src low).disk = s.disk := rfl
@[simp] theorem driveLine_head (s : State) (src : Source) (low : Bool) : (s.driveLine src low).head = s.head := rfl
@[simp] theorem driveLine_iec (s : State) (src : Source) (low : Bool) : (s.driveLine src low).iec = s.iec := rfl
@[simp] theorem driveLine_ram (s : State) (src : Source) (low : Bool) : (s.driveLine src low).ram = s.ram := rfl
@[simp] theorem driveLine_colorRam (s : State) (src : Source) (low : Bool) : (s.driveLine src low).colorRam = s.colorRam := rfl
@[simp] theorem driveLine_hostQueue (s : State) (src : Source) (low : Bool) : (s.driveLine src low).hostQueue = s.hostQueue := rfl
@[simp] theorem driveLine_driveQueue (s : State) (src : Source) (low : Bool) : (s.driveLine src low).driveQueue = s.driveQueue := rfl
@[simp] theorem driveLine_hostOps (s : State) (src : Source) (low : Bool) : (s.driveLine src low).hostOps = s.hostOps := rfl
@[simp] theorem driveLine_hostData (s : State) (src : Source) (low : Bool) : (s.driveLine src low).hostData = s.hostData := rfl
@[simp] theorem driveLine_driveData (s : State) (src : Source) (low : Bool) : (s.driveLine src low).driveData = s.driveData := rfl
@[simp] theorem driveLine_vicAddr (s : State) (src : Source) (low : Bool) : (s.driveLine src low).vicAddr = s.vicAddr := rfl
@[simp] theorem driveLine_messages (s : State) (src : Source) (low : Bool) : (s.driveLine src low).messages = s.messages := rfl
@[simp] theorem driveLine_diagnosed (s : State) (src : Source) (low : Bool) : (s.driveLine src low).diagnosed = s.diagnosed := rfl
@[simp] theorem driveLine_soPulses (s : State) (src : Source) (low : Bool) : (s.driveLine src low).soPulses = s.soPulses := rfl
@[simp] theorem driveLine_configureOk (s : State) (src : Source) (low : Bool) : (s.driveLine src low).configureOk = s.configureOk := rfl
@[simp] theorem driveLine_draws (s : State) (src : Source) (low : Bool) : (s.driveLine src low).draws = s.draws := rfl

/-! ### `pull` -/

@[simp] theorem pull_cfg (s : State) (src : Source) : (s.pull src).cfg = s.cfg := rfl
@[simp] theorem pull_cycle (s : State) (src : Source) : (s.pull src).cycle = s.cycle := rfl
@[simp] theorem pull_frame (s : State) (src : Source) : (s.pull src).frame = s.frame := rfl
@[simp] theorem pull_driveTimeAcc (s : State) (src : Source) : (s.pull src).driveTimeAcc = s.driveTimeAcc := rfl
@[simp] theorem pull_vic (s : State) (src : Source) : (s.pull src).vic = s.vic := rfl
@[simp] theorem pull_cia1 (s : State) (src : Source) : (s.pull src).cia1 = s.cia1 := rfl
@[simp] theorem pull_cia2 (s : State) (src : Source) : (s.pull src).cia2 = s.cia2 := rfl
@[simp] theorem pull_via1 (s : State) (src : Source) : (s.pull src).via1 = s.via1 := rfl
@[simp] theorem pull_via2 (s : State) (src : Source) : (s.pull src).via2 = s.via2 := rfl
@[simp] theorem pull_disk (s : State) (src : Source) : (s.pull src).disk = s.disk := rfl
@[simp] theorem pull_head (s : State) (src : Source) : (s.pull src).head = s.head := rfl
@[simp] theorem pull_iec (s : State) (src : Source) : (s.pull src).iec = s.iec := rfl
@[simp] theorem pull_ram (s : State) (src : Source) : (s.pull src).ram = s.ram := rfl
@[simp] theorem pull_colorRam (s : State) (src : Source) : (s.pull src).colorRam = s.colorRam := rfl
@[simp] theorem pull_hostQueue (s : State) (src : Source) : (s.pull src).hostQueue = s.hostQueue := rfl
@[simp] theorem pull_driveQueue (s : State) (src : Source) : (s.pull src).driveQueue = s.driveQueue := rfl
@[simp] theorem pull_hostOps (s : State) (src : Source) : (s.pull src).hostOps = s.hostOps := rfl
@[simp] theorem pull_hostData (s : State) (src : Source) : (s.pull src).hostData = s.hostData := rfl
@[simp] theorem pull_driveData (s : State) (src : Source) : (s.pull src).driveData = s.driveData := rfl
@[simp] theorem pull_vicAddr (s : State) (src : Source) : (s.pull src).vicAddr = s.vicAddr := rfl
@[simp] theorem pull_messages (s : State) (src : Source) : (s.pull src).messages = s.messages := rfl
@[simp] theorem pull_diagnosed (s : State) (src : Source) : (s.pull src).diagnosed = s.diagnosed := rfl
@[simp] theorem pull_soPulses (s : State) (src : Source) : (s.pull src).soPulses = s.soPulses := rfl
@[simp] theorem pull_configureOk (s : State) (src : Source) : (s.pull src).configureOk = s.configureOk := rfl
@[simp] theorem pull_draws (s : State) (src : Source) : (s.pull src).draws = s.draws := rfl

/-! ### `release` -/

@[simp] theorem release_cfg (s : State) (src : Source) : (s.release src).cfg = s.cfg := rfl
@[simp] theorem release_cycle (s : State) (src : Source) : (s.release src).cycle = s.cycle := rfl
@[simp] theorem release_frame (s : State) (src : Source) : (s.release src).frame = s.frame := rfl
@[simp] theorem release_driveTimeAcc (s : State) (src : Source) : (s.release src).driveTimeAcc = s.driveTimeAcc := rfl
@[simp] theorem release_vic (s : State) (src : Source) : (s.release src).vic = s.vic := rfl
@[simp] theorem release_cia1 (s : State) (src : Source) : (s.release src).cia1 = s.cia1 := rfl
@[simp] theorem release_cia2 (s : State) (src : Source) : (s.release src).cia2 = s.cia2 := rfl
@[simp] theorem release_via1 (s : State) (src : Source) : (s.release src).via1 = s.via1 := rfl
@[simp] theorem release_via2 (s : State) (src : Source) : (s.release src).via2 = s.via2 := rfl
@[simp] theorem release_disk (s : State) (src : Source) : (s.release src).disk = s.disk := rfl
@[simp] theorem release_head (s : State) (src : Source) : (s.release src).head = s.head := rfl
@[simp] theorem release_iec (s : State) (src : Source) : (s.release src).iec = s.iec := rfl
@[simp] theorem release_ram (s : State) (src : Source) : (s.release src).ram = s.ram := rfl
@[simp] theorem release_colorRam (s : State) (src : Source) : (s.release src).colorRam = s.colorRam := rfl
@[simp] theorem release_hostQueue (s : State) (src : Source) : (s.release src).hostQueue = s.hostQueue := rfl
@[simp] theorem release_driveQueue (s : State) (src : Source) : (s.release src).driveQueue = s.driveQueue := rfl
@[simp] theorem release_hostOps (s : State) (src : Source) : (s.release src).hostOps = s.hostOps := rfl
@[simp] theorem release_hostData (s : State) (src : Source) : (s.release src).hostData = s.hostData := rfl
@[simp] theorem release_driveData (s : State) (src : Source) : (s.release src).driveData = s.driveData := rfl
@[simp] theorem release_vicAddr (s : State) (src : Source) : (s.release src).vicAddr = s.vicAddr := rfl
@[simp] theorem release_messages (s : State) (src : Source) : (s.release src).messages = s.messages := rfl
@[simp] theorem release_diagnosed (s : State) (src : Source) : (s.release src).diagnosed = s.diagnosed := rfl
@[simp] theorem release_soPulses (s : State) (src : Source) : (s.release src).soPulses = s.soPulses := rfl
@[simp] theorem release_configureOk (s : State) (src : Source) : (s.release src).configureOk = s.configureOk := rfl
@[simp] theorem release_draws (s : State) (src : Source) : (s.release src).draws = s.draws := rfl

/-! ### `updateVicIrq` -/

@[simp] theorem updateVicIrq_cfg (s : State) : s.updateVicIrq.cfg = s.cfg := rfl
@[simp] theorem updateVicIrq_cycle (s : State) : s.updateVicIrq.cycle = s.cycle := rfl
@[simp] theorem updateVicIrq_frame (s : State) : s.updateVicIrq.frame = s.frame := rfl
@[simp] theorem updateVicIrq_driveTimeAcc (s : State) : s.updateVicIrq.driveTimeAcc = s.driveTimeAcc := rfl
@[simp] theorem updateVicIrq_vic (s : State) : s.updateVicIrq.vic = s.vic := rfl
@[simp] theorem updateVicIrq_cia1 (s : State) : s.updateVicIrq.cia1 = s.cia1 := rfl
@[simp] theorem updateVicIrq_cia2 (s : State) : s.updateVicIrq.cia2 = s.cia2 := rfl
@[simp] theorem updateVicIrq_via1 (s : State) : s.updateVicIrq.via1 = s.via1 := rfl
@[simp] theorem updateVicIrq_via2 (s : State) : s.updateVicIrq.via2 = s.via2 := rfl
@[simp] theorem updateVicIrq_disk (s : State) : s.updateVicIrq.disk = s.disk := rfl
@[simp] theorem updateVicIrq_head (s : State) : s.updateVicIrq.head = s.head := rfl
@[simp] theorem updateVicIrq_iec (s : State) : s.updateVicIrq.iec = s.iec := rfl
@[simp] theorem updateVicIrq_ram (s : State) : s.updateVicIrq.ram = s.ram := rfl
@[simp] theorem updateVicIrq_colorRam (s : State) : s.updateVicIrq.colorRam = s.colorRam := rfl
@[simp] theorem updateVicIrq_hostQueue (s : State) : s.updateVicIrq.hostQueue = s.hostQueue := rfl
@[simp] theorem updateVicIrq_driveQueue (s : State) : s.updateVicIrq.driveQueue = s.driveQueue := rfl
@[simp] theorem updateVicIrq_hostOps (s : State) : s.updateVicIrq.hostOps = s.hostOps := rfl
@[simp] theorem updateVicIrq_hostData (s : State) : s.updateVicIrq.hostData = s.hostData := rfl
@[simp] theorem updateVicIrq_driveData (s : State) : s.updateVicIrq.driveData = s.driveData := rfl
@[simp] theorem updateVicIrq_vicAddr (s : State) : s.updateVicIrq.vicAddr = s.vicAddr := rfl
@[simp] theorem updateVicIrq_messages (s : State) : s.updateVicIrq.messages = s.messages := rfl
@[simp] theorem updateVicIrq_diagnosed (s : State) : s.updateVicIrq.diagnosed = s.diagnosed := rfl
@[simp] theorem updateVicIrq_soPulses (s : State) : s.updateVicIrq.soPulses = s.soPulses := rfl
@[simp] theorem updateVicIrq_configureOk (s : State) : s.updateVicIrq.configureOk = s.configureOk := rfl
@[simp] theorem updateVicIrq_draws (s : State) : s.updateVicIrq.draws = s.draws := rfl

/-! ### `updateViaIrq` -/

@[simp] theorem updateViaIrq_cfg (s : State) (v : ViaId) : (s.updateViaIrq v).cfg = s.cfg := rfl
@[simp] theorem updateViaIrq_cycle (s : State) (v : ViaId) : (s.updateViaIrq v).cycle = s.cycle := rfl
@[simp] theorem updateViaIrq_frame (s : State) (v : ViaId) : (s.updateViaIrq v).frame = s.frame := rfl
@[simp] theorem updateViaIrq_driveTimeAcc (s : State) (v : ViaId) : (s.updateViaIrq v).driveTimeAcc = s.driveTimeAcc := rfl
@[simp] theorem updateViaIrq_vic (s : State) (v : ViaId) : (s.updateViaIrq v).vic = s.vic := rfl
@[simp] theorem updateViaIrq_cia1 (s : State) (v : ViaId) : (s.updateViaIrq v).cia1 = s.cia1 := rfl
@[simp] theorem updateViaIrq_cia2 (s : State) (v : ViaId) : (s.updateViaIrq v).cia2 = s.cia2 := rfl
@[simp] theorem updateViaIrq_via1 (s : State) (v : ViaId) : (s.updateViaIrq v).via1 = s.via1 := rfl
@[simp] theorem updateViaIrq_via2 (s : State) (v : ViaId) : (s.updateViaIrq v).via2 = s.via2 := rfl
@[simp] theorem updateViaIrq_disk (s : State) (v : ViaId) : (s.updateViaIrq v).disk = s.disk := rfl
@[simp] theorem updateViaIrq_head (s : State) (v : ViaId) : (s.updateViaIrq v).head = s.head := rfl
@[simp] theorem updateViaIrq_iec (s : State) (v : ViaId) : (s.updateViaIrq v).iec = s.iec := rfl
@[simp] theorem updateViaIrq_ram (s : State) (v : ViaId) : (s.updateViaIrq v).ram = s.ram := rfl
@[simp] theorem updateViaIrq_colorRam (s : State) (v : ViaId) : (s.updateViaIrq v).colorRam = s.colorRam := rfl
@[simp] theorem updateViaIrq_hostQueue (s : State) (v : ViaId) : (s.updateViaIrq v).hostQueue = s.hostQueue := rfl
@[simp] theorem updateViaIrq_driveQueue (s : State) (v : ViaId) : (s.updateViaIrq v).driveQueue = s.driveQueue := rfl
@[simp] theorem updateViaIrq_hostOps (s : State) (v : ViaId) : (s.updateViaIrq v).hostOps = s.hostOps := rfl
@[simp] theorem updateViaIrq_hostData (s : State) (v : ViaId) : (s.updateViaIrq v).hostData = s.hostData := rfl
@[simp] theorem updateViaIrq_driveData (s : State) (v : ViaId) : (s.updateViaIrq v).driveData = s.driveData := rfl
@[simp] theorem updateViaIrq_vicAddr (s : State) (v : ViaId) : (s.updateViaIrq v).vicAddr = s.vicAddr := rfl
@[simp] theorem updateViaIrq_messages (s : State) (v : ViaId) : (s.updateViaIrq v).messages = s.messages := rfl
@[simp] theorem updateViaIrq_diagnosed (s : State) (v : ViaId) : (s.updateViaIrq v).diagnosed = s.diagnosed := rfl
@[simp] theorem updateViaIrq_soPulses (s : State) (v : ViaId) : (s.updateViaIrq v).soPulses = s.soPulses := rfl
@[simp] theorem updateViaIrq_configureOk (s : State) (v : ViaId) : (s.updateViaIrq v).configureOk = s.configureOk := rfl
@[simp] theorem updateViaIrq_draws (s : State) (v : ViaId) : (s.updateViaIrq v).draws = s.draws := rfl

/-! ### `ciaInterrupt` -/

@[simp] theorem ciaInterrupt_cfg (s : State) (c : CiaId) (low : Bool) : (s.ciaInterrupt c low).cfg = s.cfg := rfl
@[simp] theorem ciaInterrupt_cycle (s : State) (c : CiaId) (low : Bool) : (s.ciaInterrupt c low).cycle = s.cycle := rfl
@[simp] theorem ciaInterrupt_frame (s : State) (c : CiaId) (low : Bool) : (s.ciaInterrupt c low).frame = s.frame := rfl
@[simp] theorem ciaInterrupt_driveTimeAcc (s : State) (c : CiaId) (low : Bool) : (s.ciaInterrupt c low).driveTimeAcc = s.driveTimeAcc := rfl
@[simp] theorem ciaInterrupt_vic (s : State) (c : CiaId) (low : Bool) : (s.ciaInterrupt c low).vic = s.vic := rfl
@[simp] theorem ciaInterrupt_cia1 (s : State) (c : CiaId) (low : Bool) : (s.ciaInterrupt c low).cia1 = s.cia1 := rfl
@[simp] theorem ciaInterrupt_cia2 (s : State) (c : CiaId) (low : Bool) : (s.ciaInterrupt c low).cia2 = s.cia2 := rfl
@[simp] theorem ciaInterrupt_via1 (s : State) (c : CiaId) (low : Bool) : (s.ciaInterrupt c low).via1 = s.via1 := rfl
@[simp] theorem ciaInterrupt_via2 (s : State) (c : CiaId) (low : Bool) : (s.ciaInterrupt c low).via2 = s.via2 := rfl
@[simp] theorem ciaInterrupt_disk (s : State) (c : CiaId) (low : Bool) : (s.ciaInterrupt c low).disk = s.disk := rfl
@[simp] theorem ciaInterrupt_head (s : State) (c : CiaId) (low : Bool) : (s.ciaInterrupt c low).head = s.head := rfl
@[simp] theorem ciaInterrupt_iec (s : State) (c : CiaId) (low : Bool) : (s.ciaInterrupt c low).iec = s.iec := rfl
@[simp] theorem ciaInterrupt_ram (s : State) (c : CiaId) (low : Bool) : (s.ciaInterrupt c low).ram = s.ram := rfl
@[simp] theorem ciaInterrupt_colorRam (s : State) (c : CiaId) (low : Bool) : (s.ciaInterrupt c low).colorRam = s.colorRam := rfl
@[simp] theorem ciaInterrupt_hostQueue (s : State) (c : CiaId) (low : Bool) : (s.ciaInterrupt c low).hostQueue = s.hostQueue := rfl
@[simp] theorem ciaInterrupt_driveQueue (s : State) (c : CiaId) (low : Bool) : (s.ciaInterrupt c low).driveQueue = s.driveQueue := rfl
@[simp] theorem ciaInterrupt_hostOps (s : State) (c : CiaId) (low : Bool) : (s.ciaInterrupt c low).hostOps = s.hostOps := rfl
@[simp] theorem ciaInterrupt_hostData (s : State) (c : CiaId) (low : Bool) : (s.ciaInterrupt c low).hostData = s.hostData := rfl
@[simp] theorem ciaInterrupt_driveData (s : State) (c : CiaId) (low : Bool) : (s.ciaInterrupt c low).driveData = s.driveData := rfl
@[simp] theorem ciaInterrupt_vicAddr (s : State) (c : CiaId) (low : Bool) : (s.ciaInterrupt c low).vicAddr = s.vicAddr := rfl
@[simp] theorem ciaInterrupt_messages (s : State) (c : CiaId) (low : Bool) : (s.ciaInterrupt c low).messages = s.messages := rfl
@[simp] theorem ciaInterrupt_diagnosed (s : State) (c : CiaId) (low : Bool) : (s.ciaInterrupt c low).diagnosed = s.diagnosed := rfl
@[simp] theorem ciaInterrupt_soPulses (s : State) (c : CiaId) (low : Bool) : (s.ciaInterrupt c low).soPulses = s.soPulses := rfl
@[simp] theorem ciaInterrupt_configureOk (s : State) (c : CiaId) (low : Bool) : (s.ciaInterrupt c low).configureOk = s.configureOk := rfl
@[simp] theorem ciaInterrupt_draws (s : State) (c : CiaId) (low : Bool) : (s.ciaInterrupt c low).draws = s.draws := rfl

/-! ### `put` -/

@[simp] theorem put_cfg (s : State) (m : Message) : (s.put m).cfg = s.cfg := rfl
@[simp] theorem put_cycle (s : State) (m : Message) : (s.put m).cycle = s.cycle := rfl
@[simp] theorem put_frame (s : State) (m : Message) : (s.put m).frame = s.frame := rfl
@[simp] theorem put_lines (s : State) (m : Message) : (s.put m).lines = s.lines := rfl
@[simp] theorem put_driveTimeAcc (s : State) (m : Message) : (s.put m).driveTimeAcc = s.driveTimeAcc := rfl
@[simp] theorem put_vic (s : State) (m : Message) : (s.put m).vic = s.vic := rfl
@[simp] theorem put_cia1 (s : State) (m : Message) : (s.put m).cia1 = s.cia1 := rfl
@[simp] theorem put_cia2 (s : State) (m : Message) : (s.put m).cia2 = s.cia2 := rfl
@[simp] theorem put_via1 (s : State) (m : Message) : (s.put m).via1 = s.via1 := rfl
@[simp] theorem put_via2 (s : State) (m : Message) : (s.put m).via2 = s.via2 := rfl
@[simp] theorem put_disk (s : State) (m : Message) : (s.put m).disk = s.disk := rfl
@[simp] theorem put_head (s : State) (m : Message) : (s.put m).head = s.head := rfl
@[simp] theorem put_iec (s : State) (m : Message) : (s.put m).iec = s.iec := rfl
@[simp] theorem put_ram (s : State) (m : Message) : (s.put m).ram = s.ram := rfl
@[simp] theorem put_colorRam (s : State) (m : Message) : (s.put m).colorRam = s.colorRam := rfl
@[simp] theorem put_hostQueue (s : State) (m : Message) : (s.put m).hostQueue = s.hostQueue := rfl
@[simp] theorem put_driveQueue (s : State) (m : Message) : (s.put m).driveQueue = s.driveQueue := rfl
@[simp] theorem put_hostOps (s : State) (m : Message) : (s.put m).hostOps = s.hostOps := rfl
@[simp] theorem put_hostData (s : State) (m : Message) : (s.put m).hostData = s.hostData := rfl
@[simp] theorem put_driveData (s : State) (m : Message) : (s.put m).driveData = s.driveData := rfl
@[simp] theorem put_vicAddr (s : State) (m : Message) : (s.put m).vicAddr = s.vicAddr := rfl
@[simp] theorem put_diagnosed (s : State) (m : Message) : (s.put m).diagnosed = s.diagnosed := rfl
@[simp] theorem put_soPulses (s : State) (m : Message) : (s.put m).soPulses = s.soPulses := rfl
@[simp] theorem put_configureOk (s : State) (m : Message) : (s.put m).configureOk = s.configureOk := rfl
@[simp] theorem put_draws (s : State) (m : Message) : (s.put m).draws = s.draws := rfl

/-! ### `raise` -/

@[simp] theorem raise_cfg (s : State) (d : Diagnostic) : (s.raise d).cfg = s.cfg := rfl
@[simp] theorem raise_cycle (s : State) (d : Diagnostic) : (s.raise d).cycle = s.cycle := rfl
@[simp] theorem raise_frame (s : State) (d : Diagnostic) : (s.raise d).frame = s.frame := rfl
@[simp] theorem raise_lines (s : State) (d : Diagnostic) : (s.raise d).lines = s.lines := rfl
@[simp] theorem raise_driveTimeAcc (s : State) (d : Diagnostic) : (s.raise d).driveTimeAcc = s.driveTimeAcc := rfl
@[simp] theorem raise_vic (s : State) (d : Diagnostic) : (s.raise d).vic = s.vic := rfl
@[simp] theorem raise_cia1 (s : State) (d : Diagnostic) : (s.raise d).cia1 = s.cia1 := rfl
@[simp] theorem raise_cia2 (s : State) (d : Diagnostic) : (s.raise d).cia2 = s.cia2 := rfl
@[simp] theorem raise_via1 (s : State) (d : Diagnostic) : (s.raise d).via1 = s.via1 := rfl
@[simp] theorem raise_via2 (s : State) (d : Diagnostic) : (s.raise d).via2 = s.via2 := rfl
@[simp] theorem raise_disk (s : State) (d : Diagnostic) : (s.raise d).disk = s.disk := rfl
@[simp] theorem raise_head (s : State) (d : Diagnostic) : (s.raise d).head = s.head := rfl
@[simp] theorem raise_iec (s : State) (d : Diagnostic) : (s.raise d).iec = s.iec := rfl
@[simp] theorem raise_ram (s : State) (d : Diagnostic) : (s.raise d).ram = s.ram := rfl
@[simp] theorem raise_colorRam (s : State) (d : Diagnostic) : (s.raise d).colorRam = s.colorRam := rfl
@[simp] theorem raise_hostQueue (s : State) (d : Diagnostic) : (s.raise d).hostQueue = s.hostQueue := rfl
@[simp] theorem raise_driveQueue (s : State) (d : Diagnostic) : (s.raise d).driveQueue = s.driveQueue := rfl
@[simp] theorem raise_hostOps (s : State) (d : Diagnostic) : (s.raise d).hostOps = s.hostOps := rfl
@[simp] theorem raise_hostData (s : State) (d : Diagnostic) : (s.raise d).hostData = s.hostData := rfl
@[simp] theorem raise_driveData (s : State) (d : Diagnostic) : (s.raise d).driveData = s.driveData := rfl
@[simp] theorem raise_vicAddr (s : State) (d : Diagnostic) : (s.raise d).vicAddr = s.vicAddr := rfl
@[simp] theorem raise_soPulses (s : State) (d : Diagnostic) : (s.raise d).soPulses = s.soPulses := rfl
@[simp] theorem raise_configureOk (s : State) (d : Diagnostic) : (s.raise d).configureOk = s.configureOk := rfl
@[simp] theorem raise_draws (s : State) (d : Diagnostic) : (s.raise d).draws = s.draws := rfl

/-! ### `drawByte` -/

@[simp] theorem drawByte_cfg (s : State) : s.drawByte.2.cfg = s.cfg := rfl
@[simp] theorem drawByte_cycle (s : State) : s.drawByte.2.cycle = s.cycle := rfl
@[simp] theorem drawByte_frame (s : State) : s.drawByte.2.frame = s.frame := rfl
@[simp] theorem drawByte_lines (s : State) : s.drawByte.2.lines = s.lines := rfl
@[simp] theorem drawByte_driveTimeAcc (s : State) : s.drawByte.2.driveTimeAcc = s.driveTimeAcc := rfl
@[simp] theorem drawByte_vic (s : State) : s.drawByte.2.vic = s.vic := rfl
@[simp] theorem drawByte_cia1 (s : State) : s.drawByte.2.cia1 = s.cia1 := rfl
@[simp] theorem drawByte_cia2 (s : State) : s.drawByte.2.cia2 = s.cia2 := rfl
@[simp] theorem drawByte_via1 (s : State) : s.drawByte.2.via1 = s.via1 := rfl
@[simp] theorem drawByte_via2 (s : State) : s.drawByte.2.via2 = s.via2 := rfl
@[simp] theorem drawByte_disk (s : State) : s.drawByte.2.disk = s.disk := rfl
@[simp] theorem drawByte_head (s : State) : s.drawByte.2.head = s.head := rfl
@[simp] theorem drawByte_iec (s : State) : s.drawByte.2.iec = s.iec := rfl
@[simp] theorem drawByte_ram (s : State) : s.drawByte.2.ram = s.ram := rfl
@[simp] theorem drawByte_colorRam (s : State) : s.drawByte.2.colorRam = s.colorRam := rfl
@[simp] theorem drawByte_hostQueue (s : State) : s.drawByte.2.hostQueue = s.hostQueue := rfl
@[simp] theorem drawByte_driveQueue (s : State) : s.drawByte.2.driveQueue = s.driveQueue := rfl
@[simp] theorem drawByte_hostOps (s : State) : s.drawByte.2.hostOps = s.hostOps := rfl
@[simp] theorem drawByte_hostData (s : State) : s.drawByte.2.hostData = s.hostData := rfl
@[simp] theorem drawByte_driveData (s : State) : s.drawByte.2.driveData = s.driveData := rfl
@[simp] theorem drawByte_vicAddr (s : State) : s.drawByte.2.vicAddr = s.vicAddr := rfl
@[simp] theorem drawByte_messages (s : State) : s.drawByte.2.messages = s.messages := rfl
@[simp] theorem drawByte_diagnosed (s : State) : s.drawByte.2.diagnosed = s.diagnosed := rfl
@[simp] theorem drawByte_soPulses (s : State) : s.drawByte.2.soPulses = s.soPulses := rfl
@[simp] theorem drawByte_configureOk (s : State) : s.drawByte.2.configureOk = s.configureOk := rfl

/-! ### `drawNibble` -/

@[simp] theorem drawNibble_cfg (s : State) : s.drawNibble.2.cfg = s.cfg := rfl
@[simp] theorem drawNibble_cycle (s : State) : s.drawNibble.2.cycle = s.cycle := rfl
@[simp] theorem drawNibble_frame (s : State) : s.drawNibble.2.frame = s.frame := rfl
@[simp] theorem drawNibble_lines (s : State) : s.drawNibble.2.lines = s.lines := rfl
@[simp] theorem drawNibble_driveTimeAcc (s : State) : s.drawNibble.2.driveTimeAcc = s.driveTimeAcc := rfl
@[simp] theorem drawNibble_vic (s : State) : s.drawNibble.2.vic = s.vic := rfl
@[simp] theorem drawNibble_cia1 (s : State) : s.drawNibble.2.cia1 = s.cia1 := rfl
@[simp] theorem drawNibble_cia2 (s : State) : s.drawNibble.2.cia2 = s.cia2 := rfl
@[simp] theorem drawNibble_via1 (s : State) : s.drawNibble.2.via1 = s.via1 := rfl
@[simp] theorem drawNibble_via2 (s : State) : s.drawNibble.2.via2 = s.via2 := rfl
@[simp] theorem drawNibble_disk (s : State) : s.drawNibble.2.disk = s.disk := rfl
@[simp] theorem drawNibble_head (s : State) : s.drawNibble.2.head = s.head := rfl
@[simp] theorem drawNibble_iec (s : State) : s.drawNibble.2.iec = s.iec := rfl
@[simp] theorem drawNibble_ram (s : State) : s.drawNibble.2.ram = s.ram := rfl
@[simp] theorem drawNibble_colorRam (s : State) : s.drawNibble.2.colorRam = s.colorRam := rfl
@[simp] theorem drawNibble_hostQueue (s : State) : s.drawNibble.2.hostQueue = s.hostQueue := rfl
@[simp] theorem drawNibble_driveQueue (s : State) : s.drawNibble.2.driveQueue = s.driveQueue := rfl
@[simp] theorem drawNibble_hostOps (s : State) : s.drawNibble.2.hostOps = s.hostOps := rfl
@[simp] theorem drawNibble_hostData (s : State) : s.drawNibble.2.hostData = s.hostData := rfl
@[simp] theorem drawNibble_driveData (s : State) : s.drawNibble.2.driveData = s.driveData := rfl
@[simp] theorem drawNibble_vicAddr (s : State) : s.drawNibble.2.vicAddr = s.vicAddr := rfl
@[simp] theorem drawNibble_messages (s : State) : s.drawNibble.2.messages = s.messages := rfl
@[simp] theorem drawNibble_diagnosed (s : State) : s.drawNibble.2.diagnosed = s.diagnosed := rfl
@[simp] theorem drawNibble_soPulses (s : State) : s.drawNibble.2.soPulses = s.soPulses := rfl
@[simp] theorem drawNibble_configureOk (s : State) : s.drawNibble.2.configureOk = s.configureOk := rfl

/-! ### `drawWord` -/

@[simp] theorem drawWord_cfg (s : State) : s.drawWord.2.cfg = s.cfg := rfl
@[simp] theorem drawWord_cycle (s : State) : s.drawWord.2.cycle = s.cycle := rfl
@[simp] theorem drawWord_frame (s : State) : s.drawWord.2.frame = s.frame := rfl
@[simp] theorem drawWord_lines (s : State) : s.drawWord.2.lines = s.lines := rfl
@[simp] theorem drawWord_driveTimeAcc (s : State) : s.drawWord.2.driveTimeAcc = s.driveTimeAcc := rfl
@[simp] theorem drawWord_vic (s : State) : s.drawWord.2.vic = s.vic := rfl
@[simp] theorem drawWord_cia1 (s : State) : s.drawWord.2.cia1 = s.cia1 := rfl
@[simp] theorem drawWord_cia2 (s : State) : s.drawWord.2.cia2 = s.cia2 := rfl
@[simp] theorem drawWord_via1 (s : State) : s.drawWord.2.via1 = s.via1 := rfl
@[simp] theorem drawWord_via2 (s : State) : s.drawWord.2.via2 = s.via2 := rfl
@[simp] theorem drawWord_disk (s : State) : s.drawWord.2.disk = s.disk := rfl
@[simp] theorem drawWord_head (s : State) : s.drawWord.2.head = s.head := rfl
@[simp] theorem drawWord_iec (s : State) : s.drawWord.2.iec = s.iec := rfl
@[simp] theorem drawWord_ram (s : State) : s.drawWord.2.ram = s.ram := rfl
@[simp] theorem drawWord_colorRam (s : State) : s.drawWord.2.colorRam = s.colorRam := rfl
@[simp] theorem drawWord_hostQueue (s : State) : s.drawWord.2.hostQueue = s.hostQueue := rfl
@[simp] theorem drawWord_driveQueue (s : State) : s.drawWord.2.driveQueue = s.driveQueue := rfl
@[simp] theorem drawWord_hostOps (s : State) : s.drawWord.2.hostOps = s.hostOps := rfl
@[simp] theorem drawWord_hostData (s : State) : s.drawWord.2.hostData = s.hostData := rfl
@[simp] theorem drawWord_driveData (s : State) : s.drawWord.2.driveData = s.driveData := rfl
@[simp] theorem drawWord_vicAddr (s : State) : s.drawWord.2.vicAddr = s.vicAddr := rfl
@[simp] theorem drawWord_messages (s : State) : s.drawWord.2.messages = s.messages := rfl
@[simp] theorem drawWord_diagnosed (s : State) : s.drawWord.2.diagnosed = s.diagnosed := rfl
@[simp] theorem drawWord_soPulses (s : State) : s.drawWord.2.soPulses = s.soPulses := rfl
@[simp] theorem drawWord_configureOk (s : State) : s.drawWord.2.configureOk = s.configureOk := rfl

/-! ### `writeVicReg` -/

@[simp] theorem writeVicReg_cfg (s : State) (r : VicRegs) : (s.writeVicReg r).cfg = s.cfg := rfl
@[simp] theorem writeVicReg_cycle (s : State) (r : VicRegs) : (s.writeVicReg r).cycle = s.cycle := rfl
@[simp] theorem writeVicReg_frame (s : State) (r : VicRegs) : (s.writeVicReg r).frame = s.frame := rfl
@[simp] theorem writeVicReg_lines (s : State) (r : VicRegs) : (s.writeVicReg r).lines = s.lines := rfl
@[simp] theorem writeVicReg_driveTimeAcc (s : State) (r : VicRegs) : (s.writeVicReg r).driveTimeAcc = s.driveTimeAcc := rfl
@[simp] theorem writeVicReg_cia1 (s : State) (r : VicRegs) : (s.writeVicReg r).cia1 = s.cia1 := rfl
@[simp] theorem writeVicReg_cia2 (s : State) (r : VicRegs) : (s.writeVicReg r).cia2 = s.cia2 := rfl
@[simp] theorem writeVicReg_via1 (s : State) (r : VicRegs) : (s.writeVicReg r).via1 = s.via1 := rfl
@[simp] theorem writeVicReg_via2 (s : State) (r : VicRegs) : (s.writeVicReg r).via2 = s.via2 := rfl
@[simp] theorem writeVicReg_disk (s : State) (r : VicRegs) : (s.writeVicReg r).disk = s.disk := rfl
@[simp] theorem writeVicReg_head (s : State) (r : VicRegs) : (s.writeVicReg r).head = s.head := rfl
@[simp] theorem writeVicReg_iec (s : State) (r : VicRegs) : (s.writeVicReg r).iec = s.iec := rfl
@[simp] theorem writeVicReg_ram (s : State) (r : VicRegs) : (s.writeVicReg r).ram = s.ram := rfl
@[simp] theorem writeVicReg_colorRam (s : State) (r : VicRegs) : (s.writeVicReg r).colorRam = s.colorRam := rfl
@[simp] theorem writeVicReg_hostQueue (s : State) (r : VicRegs) : (s.writeVicReg r).hostQueue = s.hostQueue := rfl
@[simp] theorem writeVicReg_driveQueue (s : State) (r : VicRegs) : (s.writeVicReg r).driveQueue = s.driveQueue := rfl
@[simp] theorem writeVicReg_hostOps (s : State) (r : VicRegs) : (s.writeVicReg r).hostOps = s.hostOps := rfl
@[simp] theorem writeVicReg_hostData (s : State) (r : VicRegs) : (s.writeVicReg r).hostData = s.hostData := rfl
@[simp] theorem writeVicReg_driveData (s : State) (r : VicRegs) : (s.writeVicReg r).driveData = s.driveData := rfl
@[simp] theorem writeVicReg_vicAddr (s : State) (r : VicRegs) : (s.writeVicReg r).vicAddr = s.vicAddr := rfl
@[simp] theorem writeVicReg_messages (s : State) (r : VicRegs) : (s.writeVicReg r).messages = s.messages := rfl
@[simp] theorem writeVicReg_diagnosed (s : State) (r : VicRegs) : (s.writeVicReg r).diagnosed = s.diagnosed := rfl
@[simp] theorem writeVicReg_soPulses (s : State) (r : VicRegs) : (s.writeVicReg r).soPulses = s.soPulses := rfl
@[simp] theorem writeVicReg_configureOk (s : State) (r : VicRegs) : (s.writeVicReg r).configureOk = s.configureOk := rfl
@[simp] theorem writeVicReg_draws (s : State) (r : VicRegs) : (s.writeVicReg r).draws = s.draws := rfl

/-! ### `vicBus` -/

@[simp] theorem vicBus_cfg (s : State) (a : BitVec 14) : (s.vicBus a).cfg = s.cfg := rfl
@[simp] theorem vicBus_cycle (s : State) (a : BitVec 14) : (s.vicBus a).cycle = s.cycle := rfl
@[simp] theorem vicBus_frame (s : State) (a : BitVec 14) : (s.vicBus a).frame = s.frame := rfl
@[simp] theorem vicBus_lines (s : State) (a : BitVec 14) : (s.vicBus a).lines = s.lines := rfl
@[simp] theorem vicBus_driveTimeAcc (s : State) (a : BitVec 14) : (s.vicBus a).driveTimeAcc = s.driveTimeAcc := rfl
@[simp] theorem vicBus_vic (s : State) (a : BitVec 14) : (s.vicBus a).vic = s.vic := rfl
@[simp] theorem vicBus_cia1 (s : State) (a : BitVec 14) : (s.vicBus a).cia1 = s.cia1 := rfl
@[simp] theorem vicBus_cia2 (s : State) (a : BitVec 14) : (s.vicBus a).cia2 = s.cia2 := rfl
@[simp] theorem vicBus_via1 (s : State) (a : BitVec 14) : (s.vicBus a).via1 = s.via1 := rfl
@[simp] theorem vicBus_via2 (s : State) (a : BitVec 14) : (s.vicBus a).via2 = s.via2 := rfl
@[simp] theorem vicBus_disk (s : State) (a : BitVec 14) : (s.vicBus a).disk = s.disk := rfl
@[simp] theorem vicBus_head (s : State) (a : BitVec 14) : (s.vicBus a).head = s.head := rfl
@[simp] theorem vicBus_iec (s : State) (a : BitVec 14) : (s.vicBus a).iec = s.iec := rfl
@[simp] theorem vicBus_ram (s : State) (a : BitVec 14) : (s.vicBus a).ram = s.ram := rfl
@[simp] theorem vicBus_colorRam (s : State) (a : BitVec 14) : (s.vicBus a).colorRam = s.colorRam := rfl
@[simp] theorem vicBus_hostQueue (s : State) (a : BitVec 14) : (s.vicBus a).hostQueue = s.hostQueue := rfl
@[simp] theorem vicBus_driveQueue (s : State) (a : BitVec 14) : (s.vicBus a).driveQueue = s.driveQueue := rfl
@[simp] theorem vicBus_hostOps (s : State) (a : BitVec 14) : (s.vicBus a).hostOps = s.hostOps := rfl
@[simp] theorem vicBus_hostData (s : State) (a : BitVec 14) : (s.vicBus a).hostData = s.hostData := rfl
@[simp] theorem vicBus_driveData (s : State) (a : BitVec 14) : (s.vicBus a).driveData = s.driveData := rfl
@[simp] theorem vicBus_messages (s : State) (a : BitVec 14) : (s.vicBus a).messages = s.messages := rfl
@[simp] theorem vicBus_diagnosed (s : State) (a : BitVec 14) : (s.vicBus a).diagnosed = s.diagnosed := rfl
@[simp] theorem vicBus_soPulses (s : State) (a : BitVec 14) : (s.vicBus a).soPulses = s.soPulses := rfl
@[simp] theorem vicBus_configureOk (s : State) (a : BitVec 14) : (s.vicBus a).configureOk = s.configureOk := rfl
@[simp] theorem vicBus_draws (s : State) (a : BitVec 14) : (s.vicBus a).draws = s.draws := rfl

/-! ### `mapSprite` -/

@[simp] theorem mapSprite_cfg (s : State) (n : Nat) (f : Sprite → Sprite) : (s.mapSprite n f).cfg = s.cfg := rfl
@[simp] theorem mapSprite_cycle (s : State) (n : Nat) (f : Sprite → Sprite) : (s.mapSprite n f).cycle = s.cycle := rfl
@[simp] theorem mapSprite_frame (s : State) (n : Nat) (f : Sprite → Sprite) : (s.mapSprite n f).frame = s.frame := rfl
@[simp] theorem mapSprite_lines (s : State) (n : Nat) (f : Sprite → Sprite) : (s.mapSprite n f).lines = s.lines := rfl
@[simp] theorem mapSprite_driveTimeAcc (s : State) (n : Nat) (f : Sprite → Sprite) : (s.mapSprite n f).driveTimeAcc = s.driveTimeAcc := rfl
@[simp] theorem mapSprite_cia1 (s : State) (n : Nat) (f : Sprite → Sprite) : (s.mapSprite n f).cia1 = s.cia1 := rfl
@[simp] theorem mapSprite_cia2 (s : State) (n : Nat) (f : Sprite → Sprite) : (s.mapSprite n f).cia2 = s.cia2 := rfl
@[simp] theorem mapSprite_via1 (s : State) (n : Nat) (f : Sprite → Sprite) : (s.mapSprite n f).via1 = s.via1 := rfl
@[simp] theorem mapSprite_via2 (s : State) (n : Nat) (f : Sprite → Sprite) : (s.mapSprite n f).via2 = s.via2 := rfl
@[simp] theorem mapSprite_disk (s : State) (n : Nat) (f : Sprite → Sprite) : (s.mapSprite n f).disk = s.disk := rfl
@[simp] theorem mapSprite_head (s : State) (n : Nat) (f : Sprite → Sprite) : (s.mapSprite n f).head = s.head := rfl
@[simp] theorem mapSprite_iec (s : State) (n : Nat) (f : Sprite → Sprite) : (s.mapSprite n f).iec = s.iec := rfl
@[simp] theorem mapSprite_ram (s : State) (n : Nat) (f : Sprite → Sprite) : (s.mapSprite n f).ram = s.ram := rfl
@[simp] theorem mapSprite_colorRam (s : State) (n : Nat) (f : Sprite → Sprite) : (s.mapSprite n f).colorRam = s.colorRam := rfl
@[simp] theorem mapSprite_hostQueue (s : State) (n : Nat) (f : Sprite → Sprite) : (s.mapSprite n f).hostQueue = s.hostQueue := rfl
@[simp] theorem mapSprite_driveQueue (s : State) (n : Nat) (f : Sprite → Sprite) : (s.mapSprite n f).driveQueue = s.driveQueue := rfl
@[simp] theorem mapSprite_hostOps (s : State) (n : Nat) (f : Sprite → Sprite) : (s.mapSprite n f).hostOps = s.hostOps := rfl
@[simp] theorem mapSprite_hostData (s : State) (n : Nat) (f : Sprite → Sprite) : (s.mapSprite n f).hostData = s.hostData := rfl
@[simp] theorem mapSprite_driveData (s : State) (n : Nat) (f : Sprite → Sprite) : (s.mapSprite n f).driveData = s.driveData := rfl
@[simp] theorem mapSprite_vicAddr (s : State) (n : Nat) (f : Sprite → Sprite) : (s.mapSprite n f).vicAddr = s.vicAddr := rfl
@[simp] theorem mapSprite_messages (s : State) (n : Nat) (f : Sprite → Sprite) : (s.mapSprite n f).messages = s.messages := rfl
@[simp] theorem mapSprite_diagnosed (s : State) (n : Nat) (f : Sprite → Sprite) : (s.mapSprite n f).diagnosed = s.diagnosed := rfl
@[simp] theorem mapSprite_soPulses (s : State) (n : Nat) (f : Sprite → Sprite) : (s.mapSprite n f).soPulses = s.soPulses := rfl
@[simp] theorem mapSprite_configureOk (s : State) (n : Nat) (f : Sprite → Sprite) : (s.mapSprite n f).configureOk = s.configureOk := rfl
@[simp] theorem mapSprite_draws (s : State) (n : Nat) (f : Sprite → Sprite) : (s.mapSprite n f).draws = s.draws := rfl

/-! ### `portAChanged` -/

@[simp] theorem portAChanged_cfg (s : State) (c : CiaId) : (s.portAChanged c).cfg = s.cfg := by cases c <;> rfl
@[simp] theorem portAChanged_cycle (s : State) (c : CiaId) : (s.portAChanged c).cycle = s.cycle := by cases c <;> rfl
@[simp] theorem portAChanged_frame (s : State) (c : CiaId) : (s.portAChanged c).frame = s.frame := by cases c <;> rfl
@[simp] theorem portAChanged_lines (s : State) (c : CiaId) : (s.portAChanged c).lines = s.lines := by cases c <;> rfl
@[simp] theorem portAChanged_driveTimeAcc (s : State) (c : CiaId) : (s.portAChanged c).driveTimeAcc = s.driveTimeAcc := by cases c <;> rfl
@[simp] theorem portAChanged_vic (s : State) (c : CiaId) : (s.portAChanged c).vic = s.vic := by cases c <;> rfl
@[simp] theorem portAChanged_cia1 (s : State) (c : CiaId) : (s.portAChanged c).cia1 = s.cia1 := by cases c <;> rfl
@[simp] theorem portAChanged_cia2 (s : State) (c : CiaId) : (s.portAChanged c).cia2 = s.cia2 := by cases c <;> rfl
@[simp] theorem portAChanged_via1 (s : State) (c : CiaId) : (s.portAChanged c).via1 = s.via1 := by cases c <;> rfl
@[simp] theorem portAChanged_via2 (s : State) (c : CiaId) : (s.portAChanged c).via2 = s.via2 := by cases c <;> rfl
@[simp] theorem portAChanged_disk (s : State) (c : CiaId) : (s.portAChanged c).disk = s.disk := by cases c <;> rfl
@[simp] theorem portAChanged_head (s : State) (c : CiaId) : (s.portAChanged c).head = s.head := by cases c <;> rfl
@[simp] theorem portAChanged_ram (s : State) (c : CiaId) : (s.portAChanged c).ram = s.ram := by cases c <;> rfl
@[simp] theorem portAChanged_colorRam (s : State) (c : CiaId) : (s.portAChanged c).colorRam = s.colorRam := by cases c <;> rfl
@[simp] theorem portAChanged_hostQueue (s : State) (c : CiaId) : (s.portAChanged c).hostQueue = s.hostQueue := by cases c <;> rfl
@[simp] theorem portAChanged_driveQueue (s : State) (c : CiaId) : (s.portAChanged c).driveQueue = s.driveQueue := by cases c <;> rfl
@[simp] theorem portAChanged_hostOps (s : State) (c : CiaId) : (s.portAChanged c).hostOps = s.hostOps := by cases c <;> rfl
@[simp] theorem portAChanged_hostData (s : State) (c : CiaId) : (s.portAChanged c).hostData = s.hostData := by cases c <;> rfl
@[simp] theorem portAChanged_driveData (s : State) (c : CiaId) : (s.portAChanged c).driveData = s.driveData := by cases c <;> rfl
@[simp] theorem portAChanged_vicAddr (s : State) (c : CiaId) : (s.portAChanged c).vicAddr = s.vicAddr := by cases c <;> rfl
@[simp] theorem portAChanged_messages (s : State) (c : CiaId) : (s.portAChanged c).messages = s.messages := by cases c <;> rfl
@[simp] theorem portAChanged_diagnosed (s : State) (c : CiaId) : (s.portAChanged c).diagnosed = s.diagnosed := by cases c <;> rfl
@[simp] theorem portAChanged_soPulses (s : State) (c : CiaId) : (s.portAChanged c).soPulses = s.soPulses := by cases c <;> rfl
@[simp] theorem portAChanged_configureOk (s : State) (c : CiaId) : (s.portAChanged c).configureOk = s.configureOk := by cases c <;> rfl
@[simp] theorem portAChanged_draws (s : State) (c : CiaId) : (s.portAChanged c).draws = s.draws := by cases c <;> rfl

/-! ### `writeColorRam` -/

@[simp] theorem writeColorRam_cfg (s : State) (a : Nat) (d : Byte) : (s.writeColorRam a d).cfg = s.cfg := rfl
@[simp] theorem writeColorRam_cycle (s : State) (a : Nat) (d : Byte) : (s.writeColorRam a d).cycle = s.cycle := rfl
@[simp] theorem writeColorRam_frame (s : State) (a : Nat) (d : Byte) : (s.writeColorRam a d).frame = s.frame := rfl
@[simp] theorem writeColorRam_lines (s : State) (a : Nat) (d : Byte) : (s.writeColorRam a d).lines = s.lines := rfl
@[simp] theorem writeColorRam_driveTimeAcc (s : State) (a : Nat) (d : Byte) : (s.writeColorRam a d).driveTimeAcc = s.driveTimeAcc := rfl
@[simp] theorem writeColorRam_vic (s : State) (a : Nat) (d : Byte) : (s.writeColorRam a d).vic = s.vic := rfl
@[simp] theorem writeColorRam_cia1 (s : State) (a : Nat) (d : Byte) : (s.writeColorRam a d).cia1 = s.cia1 := rfl
@[simp] theorem writeColorRam_cia2 (s : State) (a : Nat) (d : Byte) : (s.writeColorRam a d).cia2 = s.cia2 := rfl
@[simp] theorem writeColorRam_via1 (s : State) (a : Nat) (d : Byte) : (s.writeColorRam a d).via1 = s.via1 := rfl
@[simp] theorem writeColorRam_via2 (s : State) (a : Nat) (d : Byte) : (s.writeColorRam a d).via2 = s.via2 := rfl
@[simp] theorem writeColorRam_disk (s : State) (a : Nat) (d : Byte) : (s.writeColorRam a d).disk = s.disk := rfl
@[simp] theorem writeColorRam_head (s : State) (a : Nat) (d : Byte) : (s.writeColorRam a d).head = s.head := rfl
@[simp] theorem writeColorRam_iec (s : State) (a : Nat) (d : Byte) : (s.writeColorRam a d).iec = s.iec := rfl
@[simp] theorem writeColorRam_ram (s : State) (a : Nat) (d : Byte) : (s.writeColorRam a d).ram = s.ram := rfl
@[simp] theorem writeColorRam_hostQueue (s : State) (a : Nat) (d : Byte) : (s.writeColorRam a d).hostQueue = s.hostQueue := rfl
@[simp] theorem writeColorRam_driveQueue (s : State) (a : Nat) (d : Byte) : (s.writeColorRam a d).driveQueue = s.driveQueue := rfl
@[simp] theorem writeColorRam_hostOps (s : State) (a : Nat) (d : Byte) : (s.writeColorRam a d).hostOps = s.hostOps := rfl
@[simp] theorem writeColorRam_hostData (s : State) (a : Nat) (d : Byte) : (s.writeColorRam a d).hostData = s.hostData := rfl
@[simp] theorem writeColorRam_driveData (s : State) (a : Nat) (d : Byte) : (s.writeColorRam a d).driveData = s.driveData := rfl
@[simp] theorem writeColorRam_vicAddr (s : State) (a : Nat) (d : Byte) : (s.writeColorRam a d).vicAddr = s.vicAddr := rfl
@[simp] theorem writeColorRam_messages (s : State) (a : Nat) (d : Byte) : (s.writeColorRam a d).messages = s.messages := rfl
@[simp] theorem writeColorRam_diagnosed (s : State) (a : Nat) (d : Byte) : (s.writeColorRam a d).diagnosed = s.diagnosed := rfl
@[simp] theorem writeColorRam_soPulses (s : State) (a : Nat) (d : Byte) : (s.writeColorRam a d).soPulses = s.soPulses := rfl
@[simp] theorem writeColorRam_configureOk (s : State) (a : Nat) (d : Byte) : (s.writeColorRam a d).configureOk = s.configureOk := rfl
@[simp] theorem writeColorRam_draws (s : State) (a : Nat) (d : Byte) : (s.writeColorRam a d).draws = s.draws := rfl

/-! ### What an update writes -/

@[simp] theorem setCia_cia (s : State) (c : CiaId) (x : Cia) : (s.setCia c x).cia c = x := by cases c <;> rfl
@[simp] theorem setCia_cia1 (s : State) (x : Cia) : (s.setCia .cia1 x).cia1 = x := rfl
@[simp] theorem setCia_cia2 (s : State) (x : Cia) : (s.setCia .cia2 x).cia2 = x := rfl
@[simp] theorem setCia_cia1_other (s : State) (x : Cia) : (s.setCia .cia2 x).cia1 = s.cia1 := rfl
@[simp] theorem setCia_cia2_other (s : State) (x : Cia) : (s.setCia .cia1 x).cia2 = s.cia2 := rfl
@[simp] theorem setViaFields_via (s : State) (v : ViaId) (x : Via) : (s.setViaFields v x).via v = x := by cases v <;> rfl
@[simp] theorem setViaFields_via1 (s : State) (x : Via) : (s.setViaFields .via1 x).via1 = x := rfl
@[simp] theorem setViaFields_via2 (s : State) (x : Via) : (s.setViaFields .via2 x).via2 = x := rfl
@[simp] theorem setViaFields_via1_other (s : State) (x : Via) : (s.setViaFields .via2 x).via1 = s.via1 := rfl
@[simp] theorem setViaFields_via2_other (s : State) (x : Via) : (s.setViaFields .via1 x).via2 = s.via2 := rfl
@[simp] theorem driveLine_lines (s : State) (src : Source) (low : Bool) : (s.driveLine src low).lines = s.lines.drive src low := rfl
@[simp] theorem pull_lines (s : State) (src : Source) : (s.pull src).lines = s.lines.drive src true := rfl
@[simp] theorem release_lines (s : State) (src : Source) : (s.release src).lines = s.lines.drive src false := rfl
@[simp] theorem updateVicIrq_lines (s : State) :
    s.updateVicIrq.lines = s.lines.drive .vic (vicIrqCondition s.vic.irr s.vic.imr) := rfl
@[simp] theorem updateViaIrq_lines (s : State) (v : ViaId) :
    (s.updateViaIrq v).lines = s.lines.drive (.via v) (viaIrqCondition (s.via v)) := rfl
@[simp] theorem ciaInterrupt_lines (s : State) (c : CiaId) (low : Bool) :
    (s.ciaInterrupt c low).lines = s.lines.drive (.cia c) low := rfl
@[simp] theorem put_messages (s : State) (m : Message) : (s.put m).messages = putMessage s.messages m := rfl
@[simp] theorem raise_diagnosed (s : State) (d : Diagnostic) : (s.raise d).diagnosed = true := rfl
@[simp] theorem raise_messages (s : State) (d : Diagnostic) : (s.raise d).messages = putMessage s.messages (.diagnostic d) := rfl
@[simp] theorem writeVicReg_reg (s : State) (r : VicRegs) : (s.writeVicReg r).vic.reg = r := rfl
@[simp] theorem writeVicReg_regDelayed (s : State) (r : VicRegs) :
    (s.writeVicReg r).vic.regDelayed = selectRegs s.cfg.delayMask s.vic.regDelayed r := rfl
@[simp] theorem vicBus_vicAddr (s : State) (a : BitVec 14) : (s.vicBus a).vicAddr = a := rfl
@[simp] theorem writeColorRam_colorRam (s : State) (a : Nat) (d : Byte) :
    (s.writeColorRam a d).colorRam = s.colorRam.write a (d &&& 0x0f) := rfl

/-! ### The lines a source does not pull -/

@[simp] theorem drive_vic (l : Lines) (b : Bool) : l.drive .vic b = { l with irqVic := b } := rfl
@[simp] theorem drive_cia1 (l : Lines) (b : Bool) : l.drive (.cia .cia1) b = { l with irqCia1 := b } := rfl
@[simp] theorem drive_cia2 (l : Lines) (b : Bool) : l.drive (.cia .cia2) b = { l with nmiCia2 := b } := rfl
@[simp] theorem drive_via1 (l : Lines) (b : Bool) : l.drive (.via .via1) b = { l with driveIrqVia1 := b } := rfl
@[simp] theorem drive_via2 (l : Lines) (b : Bool) : l.drive (.via .via2) b = { l with driveIrqVia2 := b } := rfl
@[simp] theorem drive_restore (l : Lines) (b : Bool) : l.drive .restore b = { l with nmiRestore := b } := rfl

end Sys2Proof.Machine
end

