-- ==== Sys2Proof/Laws/Step.lean ====
section
/-! SUPPORT. A step as its parts: what holds before the host operations that are due and is kept by each of them holds after them, and
what every part of a cycle keeps, a cycle keeps. Each invariant is then a list of small goals, one for each part. -/

namespace Sys2Proof.Machine

variable {P : State → Prop} {s t : State}

/-! ### The host operations that are due (R440) -/

/-- What every waiting operation keeps, the operations due now keep; those that still wait are among those that waited. -/
theorem applyDue_keeps {Q : HostOp → Prop} (hop : ∀ op s t, Q op → P s → applyHostOp op s = .next t → P t)
    (hwait : ∀ s ops, P s → P { s with hostOps := ops }) (l : List (Nat × HostOp)) :
    ∀ s, (∀ x ∈ l, Q x.2) → P s → applyDue l s = .next t → P t ∧ ∀ x ∈ t.hostOps, Q x.2 := by
  induction l with
  | nil =>
    rintro s - hs h
    obtain rfl := next_injective h
    exact ⟨hwait _ _ hs, by simp⟩
  | cons a l ih =>
    obtain ⟨n, op⟩ := a
    intro s hq hs h
    cases n with
    | zero =>
      obtain ⟨m, hm, ht⟩ := andThen_eq_next.mp h
      exact ih m (fun x hx => hq x (.tail _ hx)) (hop _ _ _ (hq _ (.head _)) hs hm) ht
    | succ n =>
      obtain rfl := next_injective h
      refine ⟨hwait _ _ hs, fun x hx => ?_⟩
      cases hx with
      | head => exact hq (n + 1, op) (.head _)
      | tail _ hx => exact hq x (.tail _ hx)

/-- A step is the operations due, then one cycle. -/
theorem step_parts (h : step s = .next t) : ∃ m, applyDue s.hostOps s = .next m ∧ cycleWith exec m = .next t :=
  andThen_eq_next.mp h

/-! ### One cycle (R400) -/

/-- Each part of a cycle keeps P. -/
structure CycleKeeps (P : State → Prop) : Prop where
  ranged : ∀ s, P s → P s.checkRasterCycle
  before : ∀ s row, s.row? = some row → P s → P (s.vicBeforeAccess row)
  operation : ∀ i s t, P s → exec i s = .next t → P t
  after : ∀ s, P s → P s.vicAfterAccess
  cia : ∀ s c, P s → P (s.ciaTick c)
  iec : ∀ s, P s → P s.iecStep
  queues : ∀ s hq dq, P s → P { s with hostQueue := hq, driveQueue := dq }
  ram : ∀ s a d, P s → P { s with ram := s.ram.write a d }
  color : ∀ s a d, P s → P (s.writeColorRam a d)
  returned : ∀ s b n, P s → P { s with hostData := b, draws := n }
  raised : ∀ s d, P s → P (s.raise d)
  disk : ∀ s, P s → P s.diskAdvance
  via : ∀ s v, P s → P (s.viaTick v)
  time : ∀ s x, P s → P { s with driveTimeAcc := x }
  ended : ∀ s, P s → P s.endCycle

namespace CycleKeeps

variable (k : CycleKeeps P)
include k

theorem word {b : BusWord} (hs : P s) (h : runWord exec b s = .next t) : P t :=
  let ⟨i, _, hi⟩ := runWord_next h
  k.operation i s t hs hi

theorem data (hs : P s) (b : Byte) : P { s with hostData := b } := k.returned s b s.draws hs

theorem host {a : HostAccess} (hs : P s) (h : hostAccess exec a s = .next t) : P t := by
  cases a with
  | idle => exact next_injective h ▸ hs
  | ramRead addr => exact next_injective h ▸ k.data hs _
  | ramWrite addr d => exact next_injective h ▸ k.ram _ _ _ hs
  | ioRead addr =>
    simp only [hostAccess] at h
    split at h
    · exact k.word hs h
    · exact next_injective h ▸ k.returned s _ (s.draws + 1) hs
    · exact next_injective h ▸ hs
  | ioWrite addr d =>
    simp only [hostAccess] at h
    split at h
    · exact k.word hs h
    · exact next_injective h ▸ k.color _ _ _ hs
    · exact next_injective h ▸ hs
  | ciaCallRead c o =>
    simp only [hostAccess] at h
    split at h
    · exact k.word hs h
    · exact next_injective h ▸ k.data (k.raised _ _ hs) _
  | ciaCallWrite c o d =>
    simp only [hostAccess] at h
    split at h
    · exact k.word hs h
    · exact next_injective h ▸ k.raised _ _ hs

theorem hostPhi2 (hs : P s) (h : hostCpuPhi2 exec s = .next t) : P t := by
  unfold hostCpuPhi2 at h
  split at h
  · exact next_injective h ▸ hs
  · split at h
    · exact k.host (k.queues s _ s.driveQueue hs) h
    · exact next_injective h ▸ hs

theorem driveCpu (hs : P s) (h : driveCpuCycle exec s = .next t) : P t := by
  unfold driveCpuCycle at h
  split at h
  · exact next_injective h ▸ hs
  · rename_i a l _
    have hs := k.queues s s.hostQueue l hs
    cases a with
    | idle => exact next_injective h ▸ hs
    | read addr =>
      simp only [driveAccess] at h
      split at h
      · exact k.word hs h
      · exact next_injective h ▸ hs
    | write addr d =>
      simp only [driveAccess] at h
      split at h
      · exact k.word hs h
      · exact next_injective h ▸ hs

theorem driveTurn (hs : P s) (h : driveCycle exec s = .next t) : P t :=
  k.driveCpu (k.via _ _ (k.via _ _ (k.disk _ hs))) h

theorem drive (n : Nat) : ∀ s, P s → driveLoop exec n s = .next t → P t := by
  induction n with
  | zero => intro s hs h; exact next_injective h ▸ hs
  | succ n ih =>
    intro s hs h
    obtain ⟨m, hm, ht⟩ := andThen_eq_next.mp h
    exact ih _ (k.time _ _ (k.driveTurn hs hm)) ht

theorem vic {row : CycleRow} (hrow : s.row? = some row) (hs : P s) (h : vicStep exec row s = .next t) : P t := by
  obtain ⟨m, hm, h⟩ := andThen_eq_next.mp h
  obtain ⟨m', hm', h⟩ := andThen_eq_next.mp h
  have hs := k.word (k.before _ _ hrow hs) hm
  have hs : P m' := by
    unfold vicPhi2 at hm'
    split at hm'
    · exact k.word hs hm'
    · exact next_injective hm' ▸ hs
  exact next_injective h ▸ k.after _ hs

theorem rest (hs : P s) (h : afterVic exec s = .next t) : P t := by
  obtain ⟨m, hm, h⟩ := andThen_eq_next.mp h
  obtain ⟨m', hm', h⟩ := andThen_eq_next.mp h
  have hs := k.hostPhi2 (k.iec _ (k.cia _ .cia2 (k.cia _ .cia1 hs))) hm
  have hs : P m' := by
    split at hm'
    · exact k.drive _ _ (k.time _ _ hs) hm'
    · exact next_injective hm' ▸ hs
  exact next_injective h ▸ k.ended _ hs

/-- What each part of a cycle keeps, the cycle keeps. -/
theorem cycle (hs : P s) (h : cycleWith exec s = .next t) : P t := by
  unfold cycleWith at h
  split at h
  · cases h
  · rename_i table htable
    obtain ⟨m, hm, h⟩ := andThen_eq_next.mp h
    have hcfg : s.checkRasterCycle.cfg = s.cfg := by obtain ⟨v, ms, d, hf⟩ := checkRasterCycle_frame s; rw [hf]
    have hrow : s.checkRasterCycle.row? = some (entryOr table s.checkRasterCycle.vic.rasterCycle) := by
      rw [State.row?, hcfg, htable]
      exact entryOr_of_row htable (checkRasterCycle_range s)
    exact k.rest (k.vic hrow (k.ranged _ hs) hm) h

end CycleKeeps

/-- What every waiting operation and each part of a cycle keep, a step keeps. -/
theorem step_keeps {Q : HostOp → Prop} (hop : ∀ op s t, Q op → P s → applyHostOp op s = .next t → P t)
    (hwait : ∀ s ops, P s → P { s with hostOps := ops }) (k : CycleKeeps fun s => P s ∧ ∀ x ∈ s.hostOps, Q x.2)
    (hs : P s) (hq : ∀ x ∈ s.hostOps, Q x.2) (h : step s = .next t) : P t ∧ ∀ x ∈ t.hostOps, Q x.2 := by
  obtain ⟨m, hm, h⟩ := step_parts h
  exact k.cycle (applyDue_keeps hop hwait _ s hq hs hm) h

end Sys2Proof.Machine
end

