-- ==== Sys2Proof/Tests/Slice0.lean ====
section
/-!
SUPPORT. The model's own tests: WellFormed on ill-formed operations, every decoding from a word written out from the spec's encoding,
single operations and steps with results taken from the spec's examples and vectors (spec/95_test_vectors.md), and for every statement
with hypotheses a state and operands that meet them.
-/

namespace Sys2Proof.Tests

open Sys2Proof Sys2Proof.Machine

-- One theorem after another: each is evaluated by the kernel, and many at once need a thread each.
set_option Elab.async false

/-! ### Well-formedness (R307) -/

theorem test_sprite_eight_is_ill_formed :
    (Instr.rVicMnX 8).wellFormed = false ∧ (Instr.rVicMnY 8).wellFormed = false ∧ (Instr.wVicMnX 8 0).wellFormed = false ∧
      (Instr.wVicMnY 8 0).wellFormed = false := by decide

theorem test_sprite_seven_is_well_formed :
    (Instr.rVicMnX 7).wellFormed = true ∧ (Instr.rVicMnY 7).wellFormed = true ∧ (Instr.wVicMnX 7 0).wellFormed = true ∧
      (Instr.wVicMnY 7 0).wellFormed = true := by decide

/-! ### Decoding, one word for each row of the opcode table (R300-R304) -/

/-- Each word, with data byte 0x5A, decodes to its operation, and the operation's encoding has that word. -/
def reads (p : Port) (l : List (Byte × Instr)) : Bool :=
  l.all fun x =>
    (match decode ⟨p, x.1, 0x5a⟩ with
    | .ok i => i == x.2
    | .error _ => false) && (encode x.2).word == x.1 && (encode x.2).port == p

theorem test_decode_hv_reads_a : reads .hv [
  (0b1001110, .rVicMnX 7), (0b1000111, .rVicMnY 3), (0b1010000, .rVicMsbx), (0b1010001, .rVicCr1), (0b1010010, .rVicRaster),
  (0b1010011, .rVicLpx), (0b1010100, .rVicLpy), (0b1010101, .rVicMxe), (0b1010110, .rVicCr2), (0b1010111, .rVicMxye),
  (0b1011000, .rVicMemptr), (0b1011001, .rVicIrr), (0b1011010, .rVicImr), (0b1011011, .rVicMxdp), (0b1011100, .rVicMxmc),
  (0b1011101, .rVicMxxe), (0b1011110, .rVicMm), (0b1011111, .rVicMd), (0b1100000, .rVicEc), (0b1100001, .rVicB0c),
  (0b1100010, .rVicB1c), (0b1100011, .rVicB2c), (0b1100100, .rVicB3c), (0b1100101, .rVicMm0), (0b1100110, .rVicMm1),
  (0b1100111, .rVicM0c)] = true := by decide +kernel

theorem test_decode_hv_reads_b : reads .hv [
  (0b1101000, .rVicM1c), (0b1101001, .rVicM2c), (0b1101010, .rVicM3c), (0b1101011, .rVicM4c), (0b1101100, .rVicM5c),
  (0b1101101, .rVicM6c), (0b1101110, .rVicM7c), (0b1101111, .rVicUnused2F), (0b1110000, .rVicUnused30),
  (0b1110001, .rVicUnused31), (0b1110010, .rVicUnused32), (0b1110011, .rVicUnused33), (0b1110100, .rVicUnused34),
  (0b1110101, .rVicUnused35), (0b1110110, .rVicUnused36), (0b1110111, .rVicUnused37), (0b1111000, .rVicUnused38),
  (0b1111001, .rVicUnused39), (0b1111010, .rVicUnused3A), (0b1111011, .rVicUnused3B), (0b1111100, .rVicUnused3C),
  (0b1111101, .rVicUnused3D), (0b1111110, .rVicUnused3E), (0b1111111, .rVicUnused3F)] = true := by decide +kernel

theorem test_decode_hv_writes_a : reads .hv [
  (0b0001010, .wVicMnX 5 0x5a), (0b0000001, .wVicMnY 0 0x5a), (0b0010000, .wVicMsbx 0x5a), (0b0010001, .wVicCr1 0x5a),
  (0b0010010, .wVicRaster 0x5a), (0b0010011, .wVicLpx 0x5a), (0b0010100, .wVicLpy 0x5a), (0b0010101, .wVicMxe 0x5a),
  (0b0010110, .wVicCr2 0x5a), (0b0010111, .wVicMxye 0x5a), (0b0011000, .wVicMemptr 0x5a), (0b0011001, .wVicIrr 0x5a),
  (0b0011010, .wVicImr 0x5a), (0b0011011, .wVicMxdp 0x5a), (0b0011100, .wVicMxmc 0x5a), (0b0011101, .wVicMxxe 0x5a),
  (0b0011110, .wVicMm 0x5a), (0b0011111, .wVicMd 0x5a), (0b0100000, .wVicEc 0x5a), (0b0100001, .wVicB0c 0x5a),
  (0b0100010, .wVicB1c 0x5a), (0b0100011, .wVicB2c 0x5a), (0b0100100, .wVicB3c 0x5a), (0b0100101, .wVicMm0 0x5a),
  (0b0100110, .wVicMm1 0x5a), (0b0100111, .wVicM0c 0x5a)] = true := by decide +kernel

theorem test_decode_hv_writes_b : reads .hv [
  (0b0101000, .wVicM1c 0x5a), (0b0101001, .wVicM2c 0x5a), (0b0101010, .wVicM3c 0x5a), (0b0101011, .wVicM4c 0x5a),
  (0b0101100, .wVicM5c 0x5a), (0b0101101, .wVicM6c 0x5a), (0b0101110, .wVicM7c 0x5a), (0b0101111, .wVicUnused2F 0x5a),
  (0b0110000, .wVicUnused30 0x5a), (0b0110001, .wVicUnused31 0x5a), (0b0110010, .wVicUnused32 0x5a),
  (0b0110011, .wVicUnused33 0x5a), (0b0110100, .wVicUnused34 0x5a), (0b0110101, .wVicUnused35 0x5a),
  (0b0110110, .wVicUnused36 0x5a), (0b0110111, .wVicUnused37 0x5a), (0b0111000, .wVicUnused38 0x5a),
  (0b0111001, .wVicUnused39 0x5a), (0b0111010, .wVicUnused3A 0x5a), (0b0111011, .wVicUnused3B 0x5a),
  (0b0111100, .wVicUnused3C 0x5a), (0b0111101, .wVicUnused3D 0x5a), (0b0111110, .wVicUnused3E 0x5a),
  (0b0111111, .wVicUnused3F 0x5a)] = true := by decide +kernel

theorem test_decode_hc_reads : reads .hc [
  (0b110000, .rCiaPra .cia2), (0b100001, .rCiaPrb .cia1), (0b110010, .rCiaDdra .cia2), (0b100011, .rCiaDdrb .cia1),
  (0b110100, .rCiaTaLo .cia2), (0b100101, .rCiaTaHi .cia1), (0b110110, .rCiaTbLo .cia2), (0b100111, .rCiaTbHi .cia1),
  (0b111000, .rCiaTod10ths .cia2), (0b101001, .rCiaTodSec .cia1), (0b111010, .rCiaTodMin .cia2), (0b101011, .rCiaTodHrs .cia1),
  (0b111100, .rCiaSdr .cia2), (0b101101, .rCiaIcr .cia1), (0b111110, .rCiaCra .cia2), (0b101111, .rCiaCrb .cia1)] = true := by decide +kernel

theorem test_decode_hc_writes : reads .hc [
  (0b010000, .wCiaPra .cia2 0x5a), (0b000001, .wCiaPrb .cia1 0x5a), (0b010010, .wCiaDdra .cia2 0x5a),
  (0b000011, .wCiaDdrb .cia1 0x5a), (0b010100, .wCiaTaLo .cia2 0x5a), (0b000101, .wCiaTaHi .cia1 0x5a),
  (0b010110, .wCiaTbLo .cia2 0x5a), (0b000111, .wCiaTbHi .cia1 0x5a), (0b011000, .wCiaTod10ths .cia2 0x5a),
  (0b001001, .wCiaTodSec .cia1 0x5a), (0b011010, .wCiaTodMin .cia2 0x5a), (0b001011, .wCiaTodHrs .cia1 0x5a),
  (0b011100, .wCiaSdr .cia2 0x5a), (0b001101, .wCiaIcr .cia1 0x5a), (0b011110, .wCiaCra .cia2 0x5a),
  (0b001111, .wCiaCrb .cia1 0x5a)] = true := by decide +kernel

theorem test_decode_dv_reads : reads .dv [
  (0b110000, .rViaOrb .via2), (0b100001, .rViaOra .via1), (0b110010, .rViaDdrb .via2), (0b100011, .rViaDdra .via1),
  (0b110100, .rViaT1cl .via2), (0b100101, .rViaT1ch .via1), (0b110110, .rViaT1ll .via2), (0b100111, .rViaT1lh .via1),
  (0b111000, .rViaT2cl .via2), (0b101001, .rViaT2ch .via1), (0b111010, .rViaSr .via2), (0b101011, .rViaAcr .via1),
  (0b111100, .rViaPcr .via2), (0b101101, .rViaIfr .via1), (0b111110, .rViaIer .via2), (0b101111, .rViaOraNh .via1)] = true := by decide +kernel

theorem test_decode_dv_writes : reads .dv [
  (0b010000, .wViaOrb .via2 0x5a), (0b000001, .wViaOra .via1 0x5a), (0b010010, .wViaDdrb .via2 0x5a),
  (0b000011, .wViaDdra .via1 0x5a), (0b010100, .wViaT1cl .via2 0x5a), (0b000101, .wViaT1ch .via1 0x5a),
  (0b010110, .wViaT1ll .via2 0x5a), (0b000111, .wViaT1lh .via1 0x5a), (0b011000, .wViaT2cl .via2 0x5a),
  (0b001001, .wViaT2ch .via1 0x5a), (0b011010, .wViaSr .via2 0x5a), (0b001011, .wViaAcr .via1 0x5a),
  (0b011100, .wViaPcr .via2 0x5a), (0b001101, .wViaIfr .via1 0x5a), (0b011110, .wViaIer .via2 0x5a),
  (0b001111, .wViaOraNh .via1 0x5a)] = true := by decide +kernel

theorem test_decode_va_accesss : reads .va [
  (0b0000, .vaR), (0b0001, .vaI), (0b0011, .vaG), (0b0100, .vaP), (0b0110, .vaS2), (0b1010, .vaC), (0b1101, .vaS1),
  (0b1111, .vaS3)] = true := by decide +kernel

/-- The word is no operation, for this reason. -/
def rejects (b : BusWord) (e : DecodeError) : Bool :=
  match decode b with
  | .ok _ => false
  | .error r => r == e

/-- V-ENC-11 and R304: the reserved VIC accesses, and a word that is too wide for its format. -/
theorem test_decode_rejects :
    rejects ⟨.va, 0b1000, 0⟩ (.reservedVicAccess 8) = true ∧ rejects ⟨.va, 0b0010, 0⟩ (.reservedVicAccess 2) = true ∧
      rejects ⟨.hc, 0b1000000, 0⟩ (.wordTooWide .hc) = true := by decide +kernel

/-! ### Helpers -/

/-- The outcome is a next state that passes the test. -/
def ran (o : Host.Outcome State Fault Refusal) (test : State → Bool) : Bool :=
  match o with
  | .next t => test t
  | _ => false

/-- The outcome is this refusal. -/
def refusedWith (o : Host.Outcome State Fault Refusal) (r : Refusal) : Bool :=
  match o with
  | .refused q => q == r
  | _ => false

theorem exists_next {o : Host.Outcome State Fault Refusal} (h : ran o (fun _ => true) = true) : ∃ t, o = .next t := by
  cases o with
  | next t => exact ⟨t, rfl⟩
  | fault r => cases h
  | refused r => cases h

/-- A host or drive read answers this byte. -/
def hostRead (i : Instr) (s : State) (v : Byte) : Bool := ran (exec i s) fun t => t.hostData == v
def driveRead (i : Instr) (s : State) (v : Byte) : Bool := ran (exec i s) fun t => t.driveData == v

def withVic (f : Vic → Vic) : State := { State.reset with vic := f State.reset.vic }
def withRegs (f : VicRegs → VicRegs) : State := withVic fun v => { v with reg := f v.reg }
def withCia1 (f : Cia → Cia) : State := { State.reset with cia1 := f State.reset.cia1 }
def withCia2 (f : Cia → Cia) : State := { State.reset with cia2 := f State.reset.cia2 }
def withVia1 (f : Via → Via) : State := { State.reset with via1 := f State.reset.via1 }
def withVia2 (f : Via → Via) : State := { State.reset with via2 := f State.reset.via2 }

/-! ### VIC registers (spec/95_test_vectors.md 2.3 and the rules' examples) -/

/-- R601, R603, R605. -/
theorem test_read_coordinates :
    hostRead (.rVicMnX 0) (withRegs fun r => { r with mxX := r.mxX.set 0 0x164 }) 0x64 = true ∧
      hostRead (.rVicMnY 7) (withRegs fun r => { r with mxY := r.mxY.set 7 100 }) 100 = true ∧
      hostRead .rVicMsbx (withRegs fun r => { r with mxX := r.mxX.set 7 0x150 }) 0x80 = true := by decide +kernel

/-- V-REG-3, V-REG-4. -/
theorem test_read_raster :
    hostRead .rVicCr1 (withVic fun v => { v with yCounter := 300, reg := { v.reg with cr1 := 0x1b } }) 0x9b = true ∧
      hostRead .rVicRaster (withVic fun v => { v with yCounter := 0x130 }) 0x30 = true := by decide +kernel

/-- R615, R619, R627, R629, R633. -/
theorem test_read_sprite_attributes :
    hostRead .rVicMxe (withRegs fun r => { r with mxe := 0x03 }) 0x03 = true ∧
      hostRead .rVicMxye (withRegs fun r => { r with mxye := 0x80 }) 0x80 = true ∧
      hostRead .rVicMxdp (withRegs fun r => { r with mxdp := 0x01 }) 0x01 = true ∧
      hostRead .rVicMxmc (withRegs fun r => { r with mxmc := 0x02 }) 0x02 = true ∧
      hostRead .rVicMxxe (withRegs fun r => { r with mxxe := 0x04 }) 0x04 = true := by decide +kernel

/-- V-RST-1: reads after a host reset. -/
theorem test_reads_after_reset :
    hostRead .rVicEc State.reset 0xf0 = true ∧ hostRead .rVicIrr State.reset 0x70 = true ∧
      hostRead .rVicMemptr State.reset 0x01 = true ∧ hostRead .rVicCr2 State.reset 0xc0 = true ∧
      hostRead (.rCiaIcr .cia1) State.reset 0 = true ∧ hostRead (.rCiaCra .cia2) State.reset 0 = true ∧
      hostRead (.rCiaTaLo .cia1) State.reset 0xff = true ∧ hostRead (.rCiaTaHi .cia1) State.reset 0xff = true ∧
      hostRead (.rCiaTodHrs .cia1) State.reset 0x01 = true := by decide +kernel

/-- V-REG-7, V-REG-8, R625. -/
theorem test_read_interrupts :
    hostRead .rVicIrr (withVic fun v => { v with irr := 0x01, imr := 0x01 }) 0xf1 = true ∧
      hostRead .rVicIrr (withVic fun v => { v with irr := 0x01 }) 0x71 = true ∧
      hostRead .rVicImr (withVic fun v => { v with imr := 0x01 }) 0xf1 = true := by decide +kernel

/-- R642, R644, R646, R650. -/
theorem test_read_colours :
    hostRead .rVicB0c (withRegs fun r => { r with b0c := 6 }) 0xf6 = true ∧
      hostRead .rVicB3c (withRegs fun r => { r with b3c := 5 }) 0xf5 = true ∧
      hostRead .rVicMm0 (withRegs fun r => { r with mm0 := 1 }) 0xf1 = true ∧
      hostRead .rVicM7c (withRegs fun r => { r with mxc := r.mxc.set 7 2 }) 0xf2 = true ∧
      hostRead .rVicUnused3F State.reset 0xff = true := by decide +kernel

/-- R630, R631: the second read finds 0. -/
theorem test_collision_reads_clear :
    ran (exec .rVicMm (withVic fun v => { v with spriteSpriteCollision := 0x03, irr := 0x04 }))
        (fun t => t.hostData == 0x03 && t.vic.irr == 0x04 && hostRead .rVicMm t 0) = true ∧
      ran (exec .rVicMd (withVic fun v => { v with spriteBackgroundCollision := 0x08 }))
        (fun t => t.hostData == 0x08 && hostRead .rVicMd t 0) = true := by decide +kernel

/-- V-REG-20: the first edge latches, the second does not. -/
theorem test_light_pen :
    ran (applyHostOp (.setLightPen false) (withVic fun v => { v with xCounter := 0xa0, yCounter := 0x120 }))
      (fun t => hostRead .rVicLpx t 0x50 && hostRead .rVicLpy t 0x20 && t.vic.irr == 0x08 &&
        ran (applyHostOp (.setLightPen false) { t with vic := { t.vic with lpPin := true, xCounter := 0 } })
          (fun u => u.vic.lpx == 0x50)) = true := by decide +kernel

/-- V-REG-1, V-REG-2, R604. -/
theorem test_write_coordinates :
    ran (exec (.wVicMnX 0 0x64) State.reset) (fun t => t.vic.reg.mxX.get 0 == 100 &&
        ran (exec (.wVicMsbx 0x01) t) (fun u => u.vic.reg.mxX.get 0 == 356 && u.vic.reg.mxX.get 1 == 0)) = true ∧
      ran (exec (.wVicMnY 7 100) State.reset) (fun t => t.vic.reg.mxY.get 7 == 100 && t.vic.reg.mxY.get 6 == 0) = true := by
  decide +kernel

/-- V-REG-5, V-REG-6: at line 100, a write of the line being drawn fires once. -/
theorem test_raster_write_fires_once :
    ran (exec (.wVicRaster 0x64) (withVic fun v => { v with yCounter := 100, rasterCycle := 20, rasterIrqLine := 99, imr := 0x01 }))
      (fun t => t.vic.irr == 0x01 && t.lines.irqVic &&
        ran (exec (.wVicRaster 0x64) { t with vic := { t.vic with irr := 0 } }) (fun u => u.vic.irr == 0)) = true := by decide +kernel

/-- R608: bit 7 of CR1 is bit 8 of the compare line. -/
theorem test_write_cr1 :
    ran (exec (.wVicCr1 0x9b) State.reset) (fun t => t.vic.rasterIrqLine == 0x100 && hostRead .rVicCr1 t 0x1b) = true := by
  decide +kernel

/-- V-REG-9, V-REG-10. -/
theorem test_interrupt_writes :
    ran (exec (.wVicIrr 0x01) (withVic fun v => { v with irr := 0x05, imr := 0x05 }))
        (fun t => t.vic.irr == 0x04 && t.lines.irqVic) = true ∧
      ran (exec (.wVicImr 0x04) (withVic fun v => { v with irr := 0x04 }))
        (fun t => t.lines.irqVic && hostRead .rVicImr t 0xf4) = true := by decide +kernel

/-- V-REG-11, V-REG-12, V-REG-13, V-REG-14. -/
theorem test_control_and_colour_writes :
    ran (exec (.wVicCr2 0xc8) State.reset) (fun t => t.vic.reg.cr2 == 0x08 && hostRead .rVicCr2 t 0xc8) = true ∧
      ran (exec (.wVicMemptr 0x14) State.reset) (fun t => hostRead .rVicMemptr t 0x15) = true ∧
      ran (exec (.wVicEc 0x0e) State.reset) (fun t => hostRead .rVicEc t 0xfe) = true ∧
      ran (exec (.wVicB0c 0x06) State.reset) (fun t => hostRead .rVicB0c t 0xf6) = true ∧
      ran (exec (.wVicMm0 0x21) State.reset) (fun t => t.vic.reg.mm0 == 1 && t.vic.reg.mm1 == 0) = true := by decide +kernel

/-- V-REG-16, V-REG-17, V-REG-18. -/
theorem test_ignored_writes :
    ran (exec (.wVicUnused30 0x12) State.reset) (fun t => t == State.reset) = true ∧
      ran (exec (.wVicMm 0) (withVic fun v => { v with spriteSpriteCollision := 3 })) (fun t => t.vic.spriteSpriteCollision == 3) = true ∧
      ran (exec (.wVicLpx 0) (withVic fun v => { v with lpx := 0x50 })) (fun t => t.vic.lpx == 0x50) = true := by decide +kernel

/-- V-REG-21. -/
theorem test_expansion_write :
    ran (exec (.wVicMxye 0) (withVic fun v => { v with
        reg := { v.reg with mxye := 0x80 }, sprites := v.sprites.set 7 { Sprite.reset with expansionFF := false } }))
      (fun t => (t.vic.sprites.get 7).expansionFF) = true := by decide +kernel

/-! ### CIA (spec/95_test_vectors.md 2.1, 2.2) -/

/-- R514, R516, R519, R533. -/
theorem test_cia_plain_reads :
    hostRead (.rCiaDdra .cia1) (withCia1 fun x => { x with ddra := 0x3f }) 0x3f = true ∧
      hostRead (.rCiaTaLo .cia1) (withCia1 fun x => { x with counterA := 0x4025 }) 0x25 = true ∧
      hostRead (.rCiaTbHi .cia2) (withCia2 fun x => { x with counterB := 0x4025 }) 0x40 = true ∧
      hostRead (.rCiaSdr .cia1) (withCia1 fun x => { x with sdr := 0x5a }) 0x5a = true := by decide +kernel

/-- V-CIA-9. -/
theorem test_cia_port_reads :
    hostRead (.rCiaPra .cia1) (withCia1 fun x => { x with ddra := 0xff, paLatch := 0xfe, pa := 0xfe }) 0xfe = true ∧
      hostRead (.rCiaPra .cia1) (withCia1 fun x => { x with extPA := 0x7f }) 0x7f = true ∧
      hostRead (.rCiaPrb .cia1) (withCia1 fun x => { x with extPB := 0xef }) 0xef = true := by decide +kernel

/-- V-CIA-10: the VIC's bank. -/
theorem test_cia_bank :
    ran (exec (.wCiaDdra .cia2 0x3f) State.reset) (fun t =>
      ran (exec (.wCiaPra .cia2 0x97) t) (fun u => u.vicBank == 0 && u.iec.dirtyC64) &&
        ran (exec (.wCiaPra .cia2 0x94) t) (fun u => u.vicBank == 3)) = true := by decide +kernel

/-- R517, and V-CIA-8: a force load reaches a stopped counter in the second tick. -/
theorem test_cia_timer_writes :
    ran (exec (.wCiaTaLo .cia1 0x25) State.reset) (fun t => t.cia1.latchA == 0xff25 && t.cia1.counterA == 0xffff) = true ∧
      ran (exec (.wCiaCra .cia1 0x10) (withCia1 fun x => { x with latchA := 0x1234, counterA := 0x10 })) (fun t =>
        t.cia1.cra == 0 && (Cia.ticks 1 t.cia1).counterA == 0x10 && (Cia.ticks 2 t.cia1).counterA == 0x1234) = true := by
  decide +kernel

/-- R530's example. -/
theorem test_cia_icr_read :
    ran (exec (.rCiaIcr .cia1) { withCia1 (fun x => { x with icr := 0x81, int := true, imr := 0x01 }) with
        lines := { State.reset.lines with irqCia1 := true } })
      (fun t => t.hostData == 0x81 && !t.lines.irqCia1 && !t.cia1.int && (Cia.ticks 2 t.cia1).icr == 0) = true := by decide +kernel

/-- V-CIA-5: the interrupt comes two ticks after the mask write. -/
theorem test_cia_mask_write :
    ran (exec (.wCiaIcr .cia1 0x81) (withCia1 fun x => { x with icr := 0x01 }))
      (fun t => t.cia1.imr == 0x01 && !(Cia.ticks 1 t.cia1).int && (Cia.ticks 2 t.cia1).icr == 0x81 && (Cia.ticks 2 t.cia1).int) = true := by
  decide +kernel

/-- V-CIA-1, ticks 5 to 9, from the state the force load leaves: N = 2. -/
theorem test_cia_underflow :
    ran (exec (.wCiaCra .cia1 0x11) (withCia1 fun x => { x with latchA := 2, counterA := 2, imr := 1 }))
      (fun t => [2, 3, 4, 5].map (fun k => (Cia.ticks k t.cia1).counterA) == [2, 2, 1, 2] &&
        (Cia.ticks 5 t.cia1).icr == 0x01 && (Cia.ticks 6 t.cia1).icr == 0x81 && (Cia.ticks 6 t.cia1).int) = true := by decide +kernel

/-- V-TOD-4. -/
theorem test_tod_hours_write :
    ran (exec (.wCiaTodHrs .cia1 0x12) State.reset) (fun t => t.cia1.tod.time.hour == 0x92 && t.cia1.tod.stopped) = true ∧
      ran (exec (.wCiaTodHrs .cia1 0x92) State.reset) (fun t => t.cia1.tod.time.hour == 0x12) = true := by decide +kernel

/-- V-TOD-2, V-TOD-3, V-TOD-8. -/
theorem test_tod_steps :
    TodTime.increment ⟨9, 0x59, 0x59, 0x11⟩ = ⟨0, 0, 0, 0x92⟩ ∧ TodTime.increment ⟨9, 0x59, 0x59, 0x92⟩ = ⟨0, 0, 0, 0x81⟩ ∧
      TodTime.increment ⟨9, 0x59, 0x59, 0x91⟩ = ⟨0, 0, 0, 0x12⟩ ∧ TodTime.increment ⟨9, 0x59, 0x59, 0x09⟩ = ⟨0, 0, 0, 0x10⟩ ∧
      TodTime.increment ⟨9, 0x59, 0x00, 0x01⟩ = ⟨0, 0, 1, 0x01⟩ ∧ TodTime.increment ⟨0x0f, 7, 0, 0x01⟩ = ⟨0, 7, 0, 0x01⟩ := by decide +kernel

/-- V-TOD-5: the hours read freezes the time until the tenths read. -/
theorem test_tod_latch :
    ran (exec (.rCiaTodHrs .cia1) (withCia1 fun x => { x with tod := { x.tod with time := ⟨4, 0x30, 0x20, 0x10⟩ } })) (fun t =>
      t.hostData == 0x10 &&
        ran (exec (.rCiaTod10ths .cia1) { t with cia1 := { t.cia1 with tod := { t.cia1.tod with time := ⟨5, 0x30, 0x20, 0x10⟩ } } })
          (fun u => u.hostData == 4 && hostRead (.rCiaTod10ths .cia1) u 5)) = true := by decide +kernel

/-! ### VIA (spec/95_test_vectors.md 2.7) -/

/-- V-VIA-5, V-VIA-3. -/
theorem test_via_timer_reads :
    ran (exec (.rViaT1cl .via1) (withVia1 fun x => { x with t1Counter := 0x1234, ifr := 0x40 }))
        (fun t => t.driveData == 0x34 && t.via1.ifr == 0) = true ∧
      ran (exec (.rViaT1ch .via1) (withVia1 fun x => { x with t1Counter := 0x1234, ifr := 0x40 }))
        (fun t => t.driveData == 0x12 && t.via1.ifr == 0x40) = true ∧
      ran (exec (.rViaT2cl .via2) (withVia2 fun x => { x with t2Counter := 0xfffb, ifr := 0x20 }))
        (fun t => t.driveData == 0xfb && t.via2.ifr == 0) = true := by decide +kernel

/-- V-VIA-4. -/
theorem test_via_interrupts :
    ran (exec (.wViaIer .via1 0xc0) (withVia1 fun x => { x with ifr := 0x40 })) (fun t => t.via1.ier == 0x40 && t.lines.driveIrqVia1) = true ∧
      driveRead (.rViaIfr .via1) (withVia1 fun x => { x with ifr := 0x40, ier := 0x40 }) 0xc0 = true ∧
      driveRead (.rViaIfr .via1) (withVia1 fun x => { x with ifr := 0x40 }) 0x40 = true ∧
      ran (exec (.wViaIfr .via2 0x7f) (withVia2 fun x => { x with ifr := 0x42, ier := 0x40 }))
        (fun t => t.via2.ifr == 0 && !t.lines.driveIrqVia2) = true ∧
      driveRead (.rViaIer .via1) (withVia1 fun x => { x with ier := 0x02 }) 0x82 = true ∧
      ran (exec (.wViaIer .via1 0x40) (withVia1 fun x => { x with ier := 0x42 })) (fun t => t.via1.ier == 0x02) = true := by decide +kernel

/-- V-VIA-6: the port of VIA2 and the head. -/
theorem test_via_port_b :
    driveRead (.rViaOrb .via2) { withVia2 (fun x => { x with ddrb := 0x6f, orb := 0x04 }) with
        head := { Head.reset with sync := true } } 0x14 = true ∧
      ran (exec (.wViaOrb .via2 0x64) (withVia2 fun x => { x with ddrb := 0x6f }))
        (fun t => t.motorOn && t.head.zone == 0 && t.head.stepperPhase == 0) = true ∧
      ran (exec (.wViaOrb .via2 0x04) (withVia2 fun x => { x with ddrb := 0x6f, orb := 0x64 })) (fun t => t.head.zone == 3) = true := by
  decide +kernel

/-- V-VIA-7. -/
theorem test_via_pcr :
    ran (exec (.wViaPcr .via2 0xee) State.reset) (fun t => t.via2.ca2 && t.readMode) = true ∧
      ran (exec (.wViaPcr .via2 0xce) State.reset) (fun t => !t.readMode) = true ∧
      ran (exec (.wViaPcr .via2 0xec) State.reset) (fun t => !t.via2.ca2) = true := by decide +kernel

/-- V-VIA-9. -/
theorem test_via_shift_mode :
    ran (exec (.wViaAcr .via2 0x0c) State.reset)
      (fun t => t.diagnosed && t.messages == [.diagnostic .viaShiftModeUnsupported] && t.via2.sr == 0) = true := by decide +kernel

/-- V-VIA-10. -/
theorem test_via_port_a :
    ran (exec (.rViaOra .via2) (withVia2 fun x => { x with acr := 0x41, ira := 0x52, ifr := 0x02 }))
        (fun t => t.driveData == 0x52 && t.via2.ifr == 0) = true ∧
      ran (exec (.rViaOraNh .via2) (withVia2 fun x => { x with acr := 0x41, ira := 0x52, ifr := 0x02 }))
        (fun t => t.driveData == 0x52 && t.via2.ifr == 0x02) = true := by decide +kernel

/-- V-VIA-1 and V-VIA-2: N = 2, one-shot and free-running. -/
theorem test_via_timer_one :
    ran (exec (.wViaT1ch .via1 0) (withVia1 fun x => { x with t1Latch := 2 })) (fun t =>
        [1, 2, 3, 4, 5].map (fun k => (Via.ticks 0xff 0xff true k t.via1).t1Counter) == [1, 0, 0xffff, 0xfffe, 0xfffd] &&
          (Via.ticks 0xff 0xff true 2 t.via1).ifr == 0 && bit (Via.ticks 0xff 0xff true 3 t.via1).ifr 6) = true ∧
      ran (exec (.wViaT1ch .via1 0) (withVia1 fun x => { x with t1Latch := 2, acr := 0xc0 })) (fun t =>
        !t.via1.pb7T1Out && (Via.ticks 0xff 0xff true 3 t.via1).pb7T1Out && !(Via.ticks 0xff 0xff true 7 t.via1).pb7T1Out &&
          (Via.ticks 0xff 0xff true 4 t.via1).t1Counter == 2) = true := by decide +kernel

/-- V-VIA-3: timer 2 with N = 5. -/
theorem test_via_timer_two :
    ran (exec (.wViaT2ch .via1 0) (withVia1 fun x => { x with t2LatchLo := 5 })) (fun t =>
      t.via1.t2Counter == 5 && !(bit (Via.ticks 0xff 0xff true 5 t.via1).ifr 5) && bit (Via.ticks 0xff 0xff true 6 t.via1).ifr 5) = true := by
  decide +kernel

/-! ### The VIC's accesses (V-RAS-2, V-RAS-9, V-SPR-4) -/

theorem test_refresh_and_idle :
    ran (exec .vaR State.reset) (fun t => t.vicAddr == 0x3fff && t.vic.refreshCounter == 0xfe) = true ∧
      ran (exec .vaR (withVic fun v => { v with refreshCounter := 0 })) (fun t => t.vicAddr == 0x3f00 && t.vic.refreshCounter == 0xff) = true ∧
      ran (exec .vaI State.reset) (fun t => t.vicAddr == 0x3fff) = true := by decide +kernel

theorem test_graphics_access :
    ran (exec .vaG (withRegs fun r => { r with cr1 := 0x40 })) (fun t => t.vicAddr == 0x39ff && t.vic.vc == 0) = true ∧
      ran (exec .vaG (withVic fun v => { v with
          displayState := true, videoMatrix := v.videoMatrix.set 0 0x01, rc := 2, reg := { v.reg with memptr := 0x04 } }))
        (fun t => t.vicAddr == 0x100a && t.vic.vc == 1 && t.vic.vmli == 1 && t.vic.gAccess.v0 == 0x100) = true := by decide +kernel

theorem test_matrix_access :
    ran (exec .vaC { withVic (fun v => { v with baLine := ⟨1, 1, 1, 1⟩, reg := { v.reg with memptr := 0x10 } }) with
        ram := [(0x400, 0x41)], colorRam := [(0, 0x0e)] })
      (fun t => t.vicAddr == 0x400 && t.vic.videoMatrix.getD 0 0 == 0x41 && t.vic.colorLine.getD 0 0 == 0x0e && t.draws == 0) = true := by
  decide +kernel

/-- A draw replaces the value alone: the column is written and nothing is read. -/
theorem test_matrix_access_without_bus :
    ran (exec .vaC { State.reset with ram := [(0, 0x41)] }) (fun t => t.vicAddr == 0 && t.draws == 2 && t.vic.vc == 0) = true := by
  decide +kernel

/-- Sprite 0 in cycles 58 and 59, with pointer 0x0D at 0x07F8. -/
theorem test_sprite_accesses :
    let s : State := { withVic (fun v => { v with
        rasterCycle := 58, baLine := ⟨1, 1, 1, 1⟩, reg := { v.reg with memptr := 0x10 } }) with
      ram := [(0x340, 0xaa), (0x341, 0xbb), (0x342, 0xcc), (0x7f8, 0x0d)] }
    ran (exec .vaP s) (fun t => t.vicAddr == 0x7f8 && (t.vic.sprites.get 0).ptr == 0x340 &&
      ran (exec .vaS1 t) (fun u => u.vicAddr == 0x340 && (u.vic.sprites.get 0).ssr.chunk1 == 0xaa &&
        ran (exec .vaS2 (u.atCycle 59)) (fun w => w.vicAddr == 0x341 && (w.vic.sprites.get 0).ssr.chunk2 == 0xbb &&
          ran (exec .vaS3 w) (fun z => z.vicAddr == 0x342 && (z.vic.sprites.get 0).ssr.chunk3 == 0xcc && (z.vic.sprites.get 0).mc == 3)))) = true := by
  decide +kernel

/-! ### Head, GCR and bus (spec/95_test_vectors.md 2.8-2.10) -/

/-- V-DSK-3. -/
theorem test_sync :
    let s : State := { State.reset with head := { Head.reset with readShiftreg := 0x1ff, byteReadyCounter := 5 } }
    (s.takeBit true).head.sync = true ∧ (s.takeBit true).head.byteReadyCounter = 0 ∧ (s.takeBit false).head.sync = false ∧
      ((s.takeBit true).takeBit false).head.sync = false ∧ ((s.takeBit true).takeBit false).head.byteReadyCounter = 1 := by decide +kernel

/-- V-DSK-7. -/
theorem test_stepper :
    let d := Disk.powerOn Config.default
    let h (t : Nat) (o : BitVec 16) (p : BitVec 2) : Head := { Head.reset with halftrack := Fin.ofNat 84 (t - 1), bitoffset := o, stepperPhase := p }
    stepHead d (h 34 1001 0) 1 = h 35 928 1 ∧ stepHead d (h 35 928 1) 3 = h 35 928 3 ∧
      (stepHead d (h 35 8 3) 2).halftrack = (h 34 0 0).halftrack ∧
      stepHead d (h 84 8 2) 3 = h 84 8 3 ∧ stepHead d (h 1 8 0) 3 = h 1 8 3 := by decide +kernel

/-- V-GCR-1, V-GCR-2, V-GCR-3, V-GCR-4, V-GCR-5. -/
theorem test_gcr_codes :
    gcrEncode [0, 0, 0, 0] = rawBits [0x52, 0x94, 0xa5, 0x29, 0x4a] ∧
      gcrEncode [0xff, 0xff, 0xff, 0xff] = rawBits [0xad, 0x6b, 0x5a, 0xd6, 0xb5] ∧
      gcrEncode ((headerBytes (0x41, 0x42) 18 0).take 4) = rawBits [0x52, 0x56, 0xb5, 0x29, 0x72] ∧
      gcrEncode ((headerBytes (0x41, 0x42) 18 0).drop 4) = rawBits [0x74, 0x9c, 0xb5, 0x55, 0x55] ∧
      gcrEncode [0x07, 0x01, 0x02, 0x03] = rawBits [0x55, 0xd4, 0xb5, 0x49, 0x53] := by decide +kernel

/-- V-IEC-2: the idle bus. -/
theorem test_idle_bus :
    let s : State := { State.reset with
      cia2 := { Cia.reset with ddra := 0x3f, paLatch := 0x07, pa := 0xc7 }, via1 := { Via.reset with ddrb := 0x1a } }
    let t := s.iecUpdate
    t.iec.atnLine = true ∧ t.iec.clkLine = true ∧ t.iec.dataLine = true ∧
      ran (exec (.rCiaPra .cia2) t) (fun u => u.hostData &&& 0xc0 == 0xc0) = true ∧
      ran (exec (.rViaOrb .via1) t) (fun u => u.driveData &&& 0x85 == 0) = true := by decide +kernel

/-- V-IEC-4, V-IEC-5: the drive answers ATN on DATA until it acknowledges; a drive that is not connected does not. -/
theorem test_atn_answer :
    let c : Cia := { Cia.reset with ddra := 0x3f, paLatch := 0x0f, pa := 0xcf }
    let s (orb : Byte) (connected : Bool) : State := { State.reset with
      cfg := { Config.default with driveConnected := connected }, cia2 := c, via1 := { Via.reset with ddrb := 0x1a, orb := orb } }
    (s 0 true).iecUpdate.iec.dataLine = false ∧ (s 0x10 true).iecUpdate.iec.dataLine = true ∧
      (s 0x12 true).iecUpdate.iec.dataLine = false ∧ (s 0x02 false).iecUpdate.iec.dataLine = true ∧
      (s 0 true).iecUpdate.iec.atnLine = false := by decide +kernel

/-! ### Steps -/

/-- V-RAS-1: the frame boundary. -/
theorem test_frame_boundary :
    ran (step (withVic fun v => { v with yCounter := 311, rasterCycle := 63 }))
      (fun t => t.vic.yCounter == 0 && t.vic.rasterCycle == 1 && t.frame == 1 && t.messages == [.vsync]) = true := by decide +kernel

/-- A step runs the host CPU's and the drive CPU's operation of its cycle: V-REG-13 and V-VIA-4. -/
theorem test_step_runs_both_cpus :
    ran (step { State.reset with hostQueue := [.ioWrite 0xd020 0x0e], driveQueue := [.write 0x1c0e 0xc0] })
      (fun t => t.vic.reg.ec == 14 && t.via2.ier == 0x40 && t.hostQueue == [] && t.driveQueue == []) = true := by decide +kernel

/-- A table word runs as the first operation after reset: R IMR, whose value is 0. -/
theorem test_with_fetch_word :
    ran (step (State.reset.withFetchWord 8 0x5a)) (fun t => t.hostData == 0xf0) = true ∧
      decodeTableWord 8 0x5a = some .rVicImr := by decide +kernel

/-- V-EXC-1, V-EXC-4. -/
theorem test_diagnostics :
    ran (step { State.reset with hostQueue := [.ciaCallRead .cia1 16] })
        (fun t => t.hostData == 0 && t.messages == [.diagnostic .unknownAddress]) = true ∧
      ran (applyHostOp (.configure ⟨none, some .mos6526, Config.default⟩) State.reset) (fun t => t == { State.reset with configureOk := false }) = true := by
  decide +kernel

/-- R1301 code 2: a raster cycle beyond the line, a `vmli` beyond 40, an undefined pipeline stage, a fed stage that is not sticky (R503)
and a bit timer beyond 16 (R1110) are recovered from, each with the diagnostic, and the cycle completes. -/
theorem test_out_of_range :
    ran (step (State.reset.atCycle 64)) (fun t =>
        t.vic.rasterCycle == 1 && t.vic.yCounter == 1 && t.messages == [.diagnostic .invariantViolation]) = true ∧
      ran (step (withVic fun v => { v with vmli := 63 })) (fun t =>
        t.vic.vmli == 40 && t.messages == [.diagnostic .invariantViolation]) = true ∧
      ran (step (withCia1 fun x => { x with delay := 0x8000000000000000 })) (fun t =>
        t.cia1.delay == 0 && t.messages == [.diagnostic .invariantViolation]) = true ∧
      ran (step (withCia1 fun x => { x with feed := 0x100 })) (fun t =>
        t.cia1.feed == 0 && t.messages == [.diagnostic .invariantViolation]) = true ∧
      ran (step { State.reset with head := { Head.reset with bitReadyTimer := 17 } }) (fun t =>
        t.head.bitReadyTimer == 12 && t.messages == [.diagnostic .invariantViolation]) = true ∧
      ran (step State.reset) (fun t => !t.diagnosed) = true := by decide +kernel

/-- R1160: a step off a half-track of length 0 with the offset 9, the motor off, observes the offset: the diagnostic is raised and the head
moves. The same step with an offset of its half-track raises none (R1130: 9 rescaled from 10 bits to 16 is 14, rounded down to 8). -/
theorem test_step_checks_offset :
    let s (n : BitVec 16) : State := { State.reset with
      disk := ⟨true, List.replicate 34 ⟨8, []⟩ ++ [⟨n, []⟩] ++ List.replicate 49 ⟨16, []⟩, false⟩
      head := { Head.reset with bitoffset := 9 }
      via2 := { Via.reset with ddrb := 0x07, orb := 0x03 } }
    ran (exec (.wViaOrb .via2 0x00) (s 0)) (fun t =>
        t.head.halftrack == 35 && t.head.bitoffset == 0 && t.messages == [.diagnostic .invariantViolation]) = true ∧
      ran (exec (.wViaOrb .via2 0x00) (s 10)) (fun t =>
        t.head.halftrack == 35 && t.head.bitoffset == 8 && t.messages == []) = true := by decide +kernel

/-- R702: an NTSC table whose cycle 1 pairs an idle access with s1 of sprite 3: the step makes the access for sprite 3, and sprite 4
stays. -/
theorem test_ntsc_unpaired_slot :
    let row (k : Nat) : CycleRow := (palRow? (k + 1)).getD (palRow (k + 1) .i .cpu)
    let table : NtscTable := ⟨{ row 0 with phi1 := .i } :: (List.range 64).map fun k => row (k + 1), []⟩
    let s := withVic fun v => { v with sprites := v.sprites.set 3 { v.sprites.get 3 with dma := true } }
    ran (step { s with cfg := { Config.default with vicRevision := .ntsc6567, ntscTable := some table } }) (fun t =>
      (t.vic.sprites.get 3).mc == 1 && (t.vic.sprites.get 4).mc == 0) = true := by decide +kernel

/-- R1003: a pin level at VIA2's CB1 cannot be presented, so its flag stays; R1002: at VIA1's it can. -/
theorem test_cb1_wiring :
    let s : State := { State.reset with via1 := { Via.reset with extCB1 := false }, via2 := { Via.reset with extCB1 := false } }
    (s.viaTick .via1).via1.ifr &&& 0x10 = 0x10 ∧ (s.viaTick .via2).via2.ifr = 0 := by decide +kernel

/-- V-EXC-5, V-EXC-6, V-EXC-7. -/
theorem test_refusals :
    refusedWith (step { State.reset with cfg := { Config.default with vicRevision := .ntsc6567 } }) .ntscTableMissing = true ∧
      refusedWith (exec .vaG (withRegs fun r => { r with cr1 := 0x60 })) .vic65xxGlitch = true ∧
      ran (exec .vaG { withRegs (fun r => { r with cr1 := 0x60 }) with cfg := { Config.default with vic85xx := true } }) (fun _ => true) = true ∧
      refusedWith (applyHostOp .assertUltimax State.reset) .ultimax = true := by decide +kernel

/-! ### Witnesses: for every statement with hypotheses, a state and operands that meet them -/

/-- A state in which much happens at once: a running timer, a bad line, sprite DMA, memory, and both CPUs busy. -/
def busy : State := { State.reset with
  cfg := { Config.default with vic85xx := true }
  vic := { State.reset.vic with
    rasterCycle := 58
    yCounter := 0x33
    badLine := true
    displayState := true
    denWasSet := true
    irr := 0x01
    imr := 0x01
    baLine := ⟨1, 1, 1, 0⟩
    reg := { VicRegs.zero with cr1 := 0x1b, cr2 := 0x08, memptr := 0x14, mxye := 0x02, mxe := 0x01 }
    sprites := (State.reset.vic.sprites.set 0 { Sprite.reset with dma := true, mc := 3 }).set 1 { Sprite.reset with expansionFF := false } }
  lines := { Lines.reset with irqVic := true }
  cia1 := { Cia.reset with cra := 0x01, delay := 0x7, feed := 0x1, counterA := 2, latchA := 2, imr := 0x01 }
  via2 := { Via.reset with ddrb := 0x6f, orb := 0x64, pcr := 0xee }
  head := { Head.reset with stepperPhase := 0 }
  ram := [(0x400, 1), (0x7f8, 0x0d)]
  colorRam := [(3, 0x0e)]
  hostQueue := [.ioWrite 0xd020 0x0e]
  driveQueue := [.read 0x1c0d] }

theorem test_busy_steps : ∃ t, step busy = .next t := exists_next (by decide +kernel)

/-! Registers: the boundary sprites 0 and 7, and each case of a write. -/

theorem test_witness_VicSpriteReads : (0 : Nat) < 8 ∧ 7 < 8 := by decide

theorem test_witness_VicCoordinateWrites : (0 : Nat) < 8 ∧ 7 < 8 ∧ 7 ≠ 0 := by decide

theorem test_witness_VicExpansionWrite : (0 : Nat) < 8 ∧ 7 < 8 := by decide

theorem test_witness_VicLightPen :
    (State.reset.vic.lpPin = true ∧ State.reset.vic.lpTriggeredThisFrame = false) ∧
      ¬ (State.reset.vic.lpPin = true ∧ true = false ∧ State.reset.vic.lpTriggeredThisFrame = false) := by decide +kernel

theorem test_witness_VicDelayedRegisters :
    State.reset.cfg.delayMask = VicRegs.zero ∧ bit ({ VicRegs.zero with cr1 := 0x07 } : VicRegs).cr1 2 = true := by decide +kernel

/-- A new match, no match and a match already latched after the compare cycle; and cycle 1 of line 0, before it. -/
theorem test_witness_VicRasterWrites :
    let fires (s : State) (line : Nat) : Bool :=
      (s.vic.yCounter != 0 || decide (2 ≤ s.vic.rasterCycle)) && s.vic.yCounter.toNat == line && !s.vic.rasterMatchLatched
    fires (withVic fun v => { v with rasterCycle := 2 }) 0 = true ∧ fires (withVic fun v => { v with yCounter := 100 }) 100 = true ∧
      fires (withVic fun v => { v with yCounter := 100, rasterMatchLatched := true }) 100 = false ∧ fires State.reset 0 = false := by
  decide +kernel

theorem test_witness_CiaPortReads : (State.reset.cia .cia1).regular ∧ (State.reset.cia .cia2).regular ∧ (busy.cia .cia1).regular := by
  unfold Cia.regular
  decide +kernel

theorem test_witness_CiaControlWrites :
    bit (0x00 : Byte) 6 = bit (State.reset.cia .cia1).cra 6 ∧ bit (0x40 : Byte) 6 ≠ bit (State.reset.cia .cia1).cra 6 := by decide +kernel

/-- No cause enabled, one enabled with INT clear, and one enabled with INT set. -/
theorem test_witness_CiaMaskWrite :
    let y (x : Cia) : State := { State.reset with cia1 := x }
    ran (exec (.wCiaIcr .cia1 0x81) State.reset) (fun t => (State.reset.cia1.icr &&& t.cia1.imr &&& 0x1f) == 0) = true ∧
      ran (exec (.wCiaIcr .cia1 0x81) (y { Cia.reset with icr := 0x01 }))
        (fun t => (t.cia1.icr &&& t.cia1.imr &&& 0x1f) != 0 && !t.cia1.int) = true ∧
      ran (exec (.wCiaIcr .cia1 0x81) (y { Cia.reset with icr := 0x81, int := true }))
        (fun t => (t.cia1.icr &&& t.cia1.imr &&& 0x1f) != 0 && t.cia1.int) = true := by decide +kernel

theorem test_witness_TodAccesses :
    bit ({ Cia.reset with crb := 0x80 } : Cia).crb 7 = true ∧ bit (State.reset.cia .cia1).crb 7 = false := by decide +kernel

theorem test_witness_ViaTimerOneAndShiftWrites : (0xe3 : Byte) &&& 0x1c = 0 ∧ (0x04 : Byte) &&& 0x1c ≠ 0 := by decide

/-! The VIC's accesses. -/

/-- A legal mode on a 65xx chip and an illegal one on an 85xx, in display and in idle state. -/
theorem test_witness_GraphicsAccess :
    (¬ (State.reset.vic.reg.ecm = true ∧ (State.reset.vic.reg.bmm = true ∨ State.reset.vic.reg.mcm = true)) ∧
        State.reset.vic.displayState = false) ∧
      busy.cfg.vic85xx = true ∧ busy.vic.displayState = true := by decide +kernel

/-- A slot of sprite 0 with the bus, and one of sprite 7 without it. -/
theorem test_witness_Phi2Accesses :
    busy.phi2Sprite = some 0 ∧ ({ busy with vic := { busy.vic with baLine := ⟨1, 1, 1, 1⟩ } } : State).vic.baLine.lowFor3 = true ∧
      (State.reset.atCycle 10).phi2Sprite = some 7 ∧ State.reset.vic.baLine.lowFor3 = false := by decide +kernel

/-- Sprite 0 in cycles 58 and 59, and sprite 7 in cycles 9 and 10. -/
theorem test_witness_PointerAndSecondByte :
    busy.cfg.vicRevision = .pal6569 ∧ busy.vic.rasterCycle = ([58, 60, 62, 1, 3, 5, 7, 9] : List Nat).getD 0 0 ∧
      (busy.atCycle 59).vic.rasterCycle = ([58, 60, 62, 1, 3, 5, 7, 9] : List Nat).getD 0 0 + 1 ∧
      (busy.atCycle 9).vic.rasterCycle = ([58, 60, 62, 1, 3, 5, 7, 9] : List Nat).getD 7 0 ∧
      (busy.atCycle 10).vic.rasterCycle = ([58, 60, 62, 1, 3, 5, 7, 9] : List Nat).getD 7 0 + 1 := by decide +kernel

theorem test_witness_AccessAddresses :
    (0 : Nat) < 8 ∧ 7 < 8 ∧ (63 : BitVec 8).toNat < 64 ∧ VicRegs.zero.ecm = false ∧
      ({ VicRegs.zero with cr1 := 0x40 } : VicRegs).ecm = true := by decide +kernel

/-! Encodings, the step and frames. -/

theorem test_witness_DecodeEncode : (Instr.rVicMnX 7).wellFormed = true ∧ (Instr.wCiaCrb .cia2 0xff).wellFormed = true := by decide

theorem test_witness_EncodeDecode : decode ⟨.hv, 0x7f, 0⟩ = .ok .rVicUnused3F ∧ decode ⟨.va, 0x0f, 0⟩ = .ok .vaS3 := ⟨rfl, rfl⟩

/-- The first and the last mirror of each port. -/
theorem test_witness_AddressDecode :
    decode ⟨.hv, BitVec.ofNat 8 (64 + 63), 0⟩ = .ok .rVicUnused3F ∧ decode ⟨.hv, BitVec.ofNat 8 0, 1⟩ = .ok (.wVicMnX 0 1) ∧
      decode ⟨.hc, BitVec.ofNat 8 (32 + 16 + 15), 0⟩ = .ok (.rCiaCrb .cia2) ∧ decode ⟨.hc, BitVec.ofNat 8 0, 1⟩ = .ok (.wCiaPra .cia1 1) ∧
      decode ⟨.dv, BitVec.ofNat 8 (32 + 16 + 15), 0⟩ = .ok (.rViaOraNh .via2) ∧
      decode ⟨.dv, BitVec.ofNat 8 0, 1⟩ = .ok (.wViaOrb .via1 1) := ⟨rfl, rfl, rfl, rfl, rfl, rfl⟩

theorem test_witness_StepRunsDecodedOperation :
    decode ⟨.hv, 0b0100000, 0x0e⟩ = .ok (.wVicEc 0x0e) ∧ busy.hostQueue = hostAccessOf ⟨.hv, 0b0100000, 0x0e⟩ :: [] ∧
      State.reset.hostProceeds (hostAccessOf ⟨.hv, 0b0100000, 0x0e⟩) = true ∧
      decode ⟨.dv, 0b111101, 0⟩ = .ok (.rViaIfr .via2) ∧ busy.driveQueue = driveAccessOf ⟨.dv, 0b111101, 0⟩ :: [] ∧
      busy.row?.map busy.vic.phi1Word = some 0b0100 ∧ decode ⟨.va, 0b0100, 0⟩ = .ok .vaP ∧
      busy.row?.map busy.vic.phi2Word = some (some 0b1101) ∧ decode ⟨.va, 0b1101, 0⟩ = .ok .vaS1 :=
  ⟨rfl, by decide +kernel, by decide +kernel, rfl, by decide +kernel, by decide +kernel, rfl, by decide +kernel, rfl⟩

/-- The first and the last cycle of a line, and each run that is refused. -/
theorem test_witness_CycleCompletes :
    (State.reset.cycleDefined ∧ (State.reset.atCycle 63).cycleDefined ∧ (State.reset.atCycle 64).cycleDefined ∧ busy.cycleDefined) ∧ State.reset.hostOps = [] ∧
      ({ Config.default with vicRevision := .ntsc6567 } : Config).ntscTable = none ∧
      ((State.reset.atCycle 16).cfg.vic85xx = false ∧ (withRegs fun r => { r with cr1 := 0x60 }).vic.reg.illegalMode = true) := by
  unfold State.cycleDefined
  decide +kernel

/-- One cycle from the last of a frame, and two. -/
theorem test_witness_FrameLaw :
    let s := withVic fun v => { v with yCounter := 311, rasterCycle := 63 }
    s.positionInRange ∧ s.hostOps = [] ∧ (∃ t, Host.Core.run Sys2Proof.core 1 s = .next t) ∧
      ∃ t, Host.Core.run Sys2Proof.core 2 s = .next t := by
  refine ⟨?_, rfl, exists_next (by decide +kernel), exists_next (by decide +kernel)⟩
  unfold State.positionInRange
  decide +kernel

/-- An operation of each port and chip that completes. -/
theorem test_witness_PortFrames :
    [Instr.rVicMm, .vaR, .wCiaPra .cia1 1, .wCiaPra .cia2 1, .wViaOrb .via1 1, .wViaOrb .via2 1].all
      (fun i => ran (exec i busy) fun _ => true) = true := by decide +kernel

/-! Invariants: the state `busy` has each of them, and steps. -/

theorem test_witness_MemoryInvariant : busy.MemoryInv ∧ ∃ t, step busy = .next t :=
  ⟨⟨by unfold State.memoriesCanonical; decide +kernel, by intro x hx; cases hx⟩, test_busy_steps⟩

theorem test_witness_CiaInvariant : busy.CiaInv ∧ busy.PipelineInv ∧ ∃ t, step busy = .next t :=
  ⟨by unfold State.CiaInv Cia.regular; decide +kernel, by unfold State.PipelineInv Cia.pipelineDefined; decide +kernel, test_busy_steps⟩

theorem test_witness_LineInvariant : busy.LineInv ∧ ∃ t, step busy = .next t :=
  ⟨by unfold State.LineInv; decide +kernel, test_busy_steps⟩

theorem test_witness_VicInvariant : busy.UnusedBitsInv ∧ busy.DisplayInv ∧ busy.ExpansionInv ∧ ∃ t, step busy = .next t :=
  ⟨by unfold State.UnusedBitsInv; decide +kernel, by unfold State.DisplayInv; decide +kernel,
    by unfold State.ExpansionInv; decide +kernel, test_busy_steps⟩

theorem test_witness_RasterInvariant : busy.RasterInv ∧ ∃ t, step busy = .next t :=
  ⟨⟨by unfold State.positionInRange; decide +kernel, by intro x hx; cases hx⟩, test_busy_steps⟩

theorem test_witness_DriveInvariant : busy.HeadInv ∧ busy.OffsetInv ∧ busy.DriveTimeInv ∧ ∃ t, step busy = .next t :=
  ⟨by unfold State.HeadInv; decide +kernel,
    ⟨by unfold configTracksNonempty; decide +kernel, by unfold Disk.tracksNonempty; decide +kernel, by decide +kernel,
      by intro x hx; cases hx⟩,
    by unfold State.DriveTimeInv; decide +kernel, test_busy_steps⟩

/-! Bus, pixels, timers, head. -/

/-- The first and the last cycle of a line have rows; `busy` has BA low, so its write is held. -/
theorem test_witness_BusHandover :
    (palRow? 1).isSome = true ∧ (palRow? 63).isSome = true ∧ busy.hostQueue = [.ioWrite 0xd020 0x0e] ∧
      (busy.vic.baLine.v0 ≠ 0 ∧ (HostAccess.ioWrite 0xd020 0x0e).isWrite = decide (busy.cfg.cpuBaPolicy = .sourceLiteral)) ∧
      ¬ (State.reset.vic.aec = true ∨ State.reset.vic.baLine.v0 ≠ 0) := by decide +kernel

/-- The compare coordinates of both widths, one apart from a compare, and no coordinate is both. -/
theorem test_witness_BorderCompares :
    let left (r : VicRegs) : BitVec 16 := if r.csel then 24 else 31
    let right (r : VicRegs) : BitVec 16 := if r.csel then 344 else 335
    left VicRegs.zero = 31 ∧ right VicRegs.zero = 335 ∧ left { VicRegs.zero with cr2 := 0x08 } = 24 ∧
      right { VicRegs.zero with cr2 := 0x08 } = 344 ∧ ((32 : BitVec 16) ≠ left VicRegs.zero ∧ (32 : BitVec 16) ≠ right VicRegs.zero) ∧
      left VicRegs.zero ≠ right VicRegs.zero := by decide +kernel

theorem test_witness_PixelCollisions :
    (0 : Nat) < 8 ∧ 7 < 8 ∧ (⟨2, 0, 0, 0, 0, 0, 0, 2⟩ : Eight (BitVec 2)).get 0 ≠ 0 ∧ (⟨2, 0, 0, 0, 0, 0, 0, 2⟩ : Eight (BitVec 2)).get 7 ≠ 0 := by
  decide +kernel

theorem test_witness_SpriteShift :
    let p : Sprite := { Sprite.reset with ssr := { SpriteShift.reset with data := 0x800001, remainingBits := 24, active := true, expFlop := true } }
    (7 : Nat) < 8 ∧ bit ({ VicRegs.zero with mxmc := 0x7f } : VicRegs).mxmc 7 = false ∧ p.ssr.active = true ∧ p.ssr.expFlop = true ∧
      p.ssr.remainingBits = 24 ∧ (Sprite.shifts VicRegs.zero 7 24 p).2.head? = some 2 ∧
      (Sprite.shifts VicRegs.zero 7 24 p).2.getLast? = some 2 := by decide +kernel

/-- The smallest and the largest N. -/
theorem test_witness_CiaUnderflowLaw :
    let x (n : BitVec 16) : Cia := { Cia.reset with cra := 0x01, counterA := n, latchA := n, imr := 0x01, delay := 0x7, feed := 0x1 }
    ∀ n ∈ [0, 65535], n < 2 ^ 16 ∧ (x (BitVec.ofNat 16 n)).counterA = BitVec.ofNat 16 n ∧ (x 0).int = false ∧ bit (x 0).icr 0 = false ∧
      (x 0).delay &&& 0x181c030f = 0x7 ∧ (x 0).feed &&& ~~~ stickyStages = 0 ∧ bit (x 0).feed 0 = true ∧ bit (x 0).feed 20 = false := by
  decide +kernel

/-- The first and the last time of the day. -/
theorem test_witness_TodCounts : (⟨0, 0, 0, 0x12⟩ : TodTime).valid ∧ (⟨9, 0x59, 0x59, 0x91⟩ : TodTime).valid ∧
    (⟨0, 0, 0, 0x12⟩ : TodTime).tenths = 0 ∧ (⟨9, 0x59, 0x59, 0x91⟩ : TodTime).tenths = 863999 := by
  unfold TodTime.valid
  decide +kernel

theorem test_witness_ViaTimerOnePeriod :
    let x (n : BitVec 16) : Via := { Via.reset with t1Counter := n, t1Latch := n, acr := 0x40 }
    ∀ n ∈ [0, 65535], n < 2 ^ 16 ∧ (x (BitVec.ofNat 16 n)).t1Counter = BitVec.ofNat 16 n ∧ (x 0).t1ReloadPending = false ∧
      bit (x 0).acr 6 = true := by decide +kernel

/-- Exactly ten bits, in read mode and in write mode. -/
theorem test_witness_SyncDetection :
    10 ≤ (List.replicate 10 true).length ∧ State.reset.readMode = true ∧ (State.reset.takeBits (List.replicate 10 true)).head.sync = true ∧
      (State.reset.takeBits (List.replicate 9 true)).head.sync = false ∧
      (withVia2 fun x => { x with cb2 := false }).readMode = false := by decide +kernel

/-- A step up to half-track 84, a step down to half-track 1, and the two stops. -/
theorem test_witness_HeadSteps :
    let d := Disk.powerOn Config.default
    let h (t : Fin 84) : Head := { Head.reset with halftrack := t, stepperPhase := 0 }
    ((field (0x01 : Byte) 0 2).toNat = ((h 82).stepperPhase.toNat + 1) % 4 ∧ (h 82).halftrack.val < 83 ∧
        (headSees d (h 82) 0x01).halftrack = 83) ∧
      ((field (0x03 : Byte) 0 2).toNat = ((h 1).stepperPhase.toNat + 3) % 4 ∧ 0 < (h 1).halftrack.val ∧
        (headSees d (h 1) 0x03).halftrack = 0) ∧
      ((headSees d (h 83) 0x01).halftrack = 83 ∧ (headSees d (h 0) 0x03).halftrack = 0) ∧
      ((h 82).bitoffset.toNat < d.trackLength 82 ∧ 0 < d.trackLength 83) := by decide +kernel

theorem test_witness_GcrRoundTrip : (255 : Nat) < 256 ∧ (List.replicate 256 (0xff : Byte)).length = 256 := by decide +kernel

end Sys2Proof.Tests
end

section
/-!
PROOFS. The CIA accesses of 41_cia.md that read or store registers: an equation for each access, and the two statements about them.
-/

namespace Sys2Proof.Machine

variable (s : State) (c : CiaId) (d : Byte)

/-! ### The bytes of a word -/

theorem loByte_eq_field (v : BitVec 16) : loByte v = field v 0 8 := rfl
theorem hiByte_eq_field (v : BitVec 16) : hiByte v = field v 8 8 := rfl
theorem withLo_eq_append (v : BitVec 16) (d : Byte) : withLo v d = field v 8 8 ++ d := rfl

/-! ### Host reads (R514, R516, R519, R533) -/

theorem hostReturns_eq (v : Byte) : s.hostReturns v = .next { s with hostData := v } := rfl

@[simp] theorem exec_rCiaDdra : exec (.rCiaDdra c) s = s.hostReturns (s.cia c).ddra := rfl
@[simp] theorem exec_rCiaDdrb : exec (.rCiaDdrb c) s = s.hostReturns (s.cia c).ddrb := rfl
@[simp] theorem exec_rCiaTaLo : exec (.rCiaTaLo c) s = s.hostReturns (loByte (s.cia c).counterA) := rfl
@[simp] theorem exec_rCiaTaHi : exec (.rCiaTaHi c) s = s.hostReturns (hiByte (s.cia c).counterA) := rfl
@[simp] theorem exec_rCiaTbLo : exec (.rCiaTbLo c) s = s.hostReturns (loByte (s.cia c).counterB) := rfl
@[simp] theorem exec_rCiaTbHi : exec (.rCiaTbHi c) s = s.hostReturns (hiByte (s.cia c).counterB) := rfl
@[simp] theorem exec_rCiaSdr : exec (.rCiaSdr c) s = s.hostReturns (s.cia c).sdr := rfl

/-- The force-load strobe, bit 4, is masked out of the read. -/
@[simp] theorem exec_rCiaCra : exec (.rCiaCra c) s = s.hostReturns ((s.cia c).cra &&& 0xef) := rfl
@[simp] theorem exec_rCiaCrb : exec (.rCiaCrb c) s = s.hostReturns ((s.cia c).crb &&& 0xef) := rfl

/-! ### Port, direction and low latch writes (R511, R513, R515, R517) -/

@[simp] theorem exec_wCiaPra : exec (.wCiaPra c d) s =
    .next ((s.setCia c { s.cia c with paLatch := d, pa := d ||| ~~~ (s.cia c).ddra }).portAChanged c) := rfl

@[simp] theorem exec_wCiaDdra : exec (.wCiaDdra c d) s =
    .next ((s.setCia c { s.cia c with ddra := d, pa := (s.cia c).paLatch ||| ~~~ d }).portAChanged c) := rfl

@[simp] theorem exec_wCiaPrb : exec (.wCiaPrb c d) s =
    .next (s.setCia c { s.cia c with pbLatch := d, pb := d ||| ~~~ (s.cia c).ddrb }) := rfl

@[simp] theorem exec_wCiaDdrb : exec (.wCiaDdrb c d) s =
    .next (s.setCia c { s.cia c with ddrb := d, pb := (s.cia c).pbLatch ||| ~~~ d }) := rfl

@[simp] theorem exec_wCiaTaLo : exec (.wCiaTaLo c d) s =
    .next (s.setCia c { s.cia c with latchA := withLo (s.cia c).latchA d }) := rfl

@[simp] theorem exec_wCiaTbLo : exec (.wCiaTbLo c d) s =
    .next (s.setCia c { s.cia c with latchB := withLo (s.cia c).latchB d }) := rfl

/-- A change of CIA1's port A stays inside the chip. -/
theorem setCia_portAChanged_cia1 (x : Cia) : (s.setCia .cia1 x).portAChanged .cia1 = { s with cia1 := x } := rfl

/-- A change of CIA2's port A also reaches the IEC bus, with the new pins. -/
theorem setCia_portAChanged_cia2 (x : Cia) : (s.setCia .cia2 x).portAChanged .cia2 =
    { s with cia2 := x, iec := { s.iec with dirtyC64 := true, ciaPins := (x.pa, x.ddra) } } := rfl

end Sys2Proof.Machine

namespace Sys2Proof.Proofs

open Sys2Proof Sys2Proof.Machine

/-- Settles O13: each access returns its register on the host data bus. -/
theorem ciaPlainReads : Obligations.CiaPlainReads := by
  intro s c
  simp only [exec_rCiaDdra, exec_rCiaDdrb, exec_rCiaTaLo, exec_rCiaTaHi, exec_rCiaTbLo, exec_rCiaTbHi, exec_rCiaCra, exec_rCiaCrb,
    exec_rCiaSdr, hostReturns_eq, loByte_eq_field, hiByte_eq_field, and_self]

/-- Settles O15: the port A writes by the chip they go to, the others alike for both chips. -/
theorem ciaPortWrites : Obligations.CiaPortWrites := by
  intro s d
  refine ⟨?pra1, ?ddra1, ⟨_, ?pra2, rfl, ?bank⟩, ?ddra2, fun c => ⟨?prb, ?ddrb, ?taLo, ?tbLo⟩⟩
  case pra1 => rw [exec_wCiaPra, setCia_portAChanged_cia1, State.cia]
  case ddra1 => rw [exec_wCiaDdra, setCia_portAChanged_cia1, State.cia]
  case pra2 => rw [exec_wCiaPra, setCia_portAChanged_cia2, State.cia]
  case bank => rw [State.vicBank]
  case ddra2 => rw [exec_wCiaDdra, setCia_portAChanged_cia2, State.cia]
  case prb => exact exec_wCiaPrb s c d
  case ddrb => exact exec_wCiaDdrb s c d
  case taLo => rw [exec_wCiaTaLo, withLo_eq_append]
  case tbLo => rw [exec_wCiaTbLo, withLo_eq_append]

end Sys2Proof.Proofs
end

section
/-!
PROOFS. The VIC register accesses of 42_vic_registers.md: the bytes and flags they put together, an equation for each access a
statement names by itself, and the statements about them.
-/

namespace Sys2Proof.Machine

/-! ### Parts of a word -/

/-- The lowest bits are the word cut to their number. -/
theorem setWidth_eq_field {w n : Nat} (v : BitVec w) (h : n ≤ w) : v.setWidth n = field v 0 n := BitVec.setWidth_eq_extractLsb' h

/-- The low part of a word put together from two. -/
theorem field_append_low {m n : Nat} (a : BitVec m) (b : BitVec n) : field (a ++ b) 0 n = b := BitVec.extractLsb'_append_eq_right

theorem bit_append {m n : Nat} (a : BitVec m) (b : BitVec n) (k : Nat) :
    bit (a ++ b) k = if k < n then bit b k else bit a (k - n) := BitVec.getLsbD_append

theorem bit_bitOf (b : Bool) (k : Nat) : bit (bitOf b) k = (decide (k = 0) && b) := by
  cases b <;> simp [bit, bitOf, BitVec.getLsbD_one]

/-- The only bit of a one-bit field. -/
theorem bit_field_one {w : Nat} (v : BitVec w) (i : Nat) : bit (field v i 1) 0 = bit v i := by
  simp [bit_field]

/-- A byte read as a flag over seven bits (R607). -/
theorem bitOf_append_field_seven (b : Bool) (v : Byte) :
    bitOf b ++ field v 0 7 = (if b then 0x80 else 0x00) ||| (v &&& 0x7f) := by
  revert b v; decide

/-- A colour reads with its upper four bits 1 (R640-R646). -/
theorem ones_append_nibble (c : Nibble) : (0xf : Nibble) ++ c = c.setWidth 8 ||| 0xf0 := by
  revert c; decide

/-! ### The VIC's interrupt (R623, R660) -/

theorem vicIrqCondition_eq (irr imr : Byte) : vicIrqCondition irr imr = decide (irr &&& imr &&& 0x0f ≠ 0) := by
  rw [Bool.eq_iff_iff]
  simp [vicIrqCondition]

theorem irrRead_eq (irr imr : Byte) :
    irrRead irr imr = (if irr &&& imr &&& 0x0f = 0 then 0x00 else 0x80) ||| 0x70 ||| (irr &&& 0x0f) := by
  simp only [irrRead, vicIrqCondition_eq, ne_eq, decide_not, Bool.not_eq_true', decide_eq_false_iff_not, ite_not]

variable (s : State) (d : Byte) (n : Nat)

/-- An update of the VIC's interrupt changes the VIC's pull of its line and nothing else. -/
theorem updateVicIrq_eq : s.updateVicIrq =
    { s with lines := { s.lines with irqVic := decide (s.vic.irr &&& s.vic.imr &&& 0x0f ≠ 0) } } := by
  rw [State.updateVicIrq, vicIrqCondition_eq, State.driveLine, Lines.drive]

/-! ### Host reads (R601-R633) -/

@[simp] theorem exec_rVicMnX : exec (.rVicMnX n) s = s.hostReturns (field (s.vic.reg.mxX.get n) 0 8) := rfl
@[simp] theorem exec_rVicMnY : exec (.rVicMnY n) s = s.hostReturns (s.vic.reg.mxY.get n) := rfl
@[simp] theorem exec_rVicMsbx : exec .rVicMsbx s = s.hostReturns (s.vic.reg.mxX.mapIdx fun _ x => bit x 8).toByte := rfl
@[simp] theorem exec_rVicMxe : exec .rVicMxe s = s.hostReturns s.vic.reg.mxe := rfl
@[simp] theorem exec_rVicMxye : exec .rVicMxye s = s.hostReturns s.vic.reg.mxye := rfl
@[simp] theorem exec_rVicCr1 : exec .rVicCr1 s = s.hostReturns (bitOf (bit s.vic.yCounter 8) ++ field s.vic.reg.cr1 0 7) := rfl
@[simp] theorem exec_rVicRaster : exec .rVicRaster s = s.hostReturns (field s.vic.yCounter 0 8) := rfl
@[simp] theorem exec_rVicCr2 : exec .rVicCr2 s = s.hostReturns (s.vic.reg.cr2 ||| 0xc0) := rfl
@[simp] theorem exec_rVicMemptr : exec .rVicMemptr s = s.hostReturns (s.vic.reg.memptr ||| 0x01) := rfl
@[simp] theorem exec_rVicIrr : exec .rVicIrr s = s.hostReturns (irrRead s.vic.irr s.vic.imr) := rfl
@[simp] theorem exec_rVicImr : exec .rVicImr s = s.hostReturns (s.vic.imr ||| 0xf0) := rfl
@[simp] theorem exec_rVicMxdp : exec .rVicMxdp s = s.hostReturns s.vic.reg.mxdp := rfl
@[simp] theorem exec_rVicMxmc : exec .rVicMxmc s = s.hostReturns s.vic.reg.mxmc := rfl
@[simp] theorem exec_rVicMxxe : exec .rVicMxxe s = s.hostReturns s.vic.reg.mxxe := rfl

@[simp] theorem exec_rVicMm : exec .rVicMm s =
    { s with vic := { s.vic with spriteSpriteCollision := 0 } }.hostReturns s.vic.spriteSpriteCollision := rfl

@[simp] theorem exec_rVicMd : exec .rVicMd s =
    { s with vic := { s.vic with spriteBackgroundCollision := 0 } }.hostReturns s.vic.spriteBackgroundCollision := rfl

/-! ### Host writes (R602, R604, R606, R624, R626) -/

@[simp] theorem exec_wVicMnX : exec (.wVicMnX n d) s = .next (s.writeVicReg
    { s.vic.reg with mxX := s.vic.reg.mxX.set n (field (s.vic.reg.mxX.get n) 8 1 ++ d) }) := rfl

@[simp] theorem exec_wVicMnY : exec (.wVicMnY n d) s = .next (s.writeVicReg
    { s.vic.reg with mxY := s.vic.reg.mxY.set n d }) := rfl

@[simp] theorem exec_wVicMsbx : exec (.wVicMsbx d) s = .next (s.writeVicReg
    { s.vic.reg with mxX := s.vic.reg.mxX.mapIdx fun n x => bitOf (bit d n) ++ field x 0 8 }) := rfl

@[simp] theorem exec_wVicIrr : exec (.wVicIrr d) s =
    .next { s with vic := { s.vic with irr := s.vic.irr &&& ~~~ (d &&& 0x0f) } }.updateVicIrq := rfl

@[simp] theorem exec_wVicImr : exec (.wVicImr d) s =
    .next { s with vic := { s.vic with imr := d &&& 0x0f } }.updateVicIrq := rfl

end Sys2Proof.Machine

namespace Sys2Proof.Proofs

open Sys2Proof Sys2Proof.Machine

/-- Settles O6: the register written is the one of its access's equation, read back entry by entry. -/
theorem vicCoordinateWrites : Obligations.VicCoordinateWrites := by
  intro s d
  refine ⟨fun n hn => ⟨_, exec_wVicMnX s d n, ?lowByte, ?highBit, ?otherX, rfl⟩,
    fun n hn => ⟨_, exec_wVicMnY s d n, Eight.get_set_same .., ?otherY, rfl⟩, ⟨_, exec_wVicMsbx s d, ?highBits, rfl⟩⟩
  case lowByte => exact (congrArg (field · 0 8) (Eight.get_set_same ..)).trans (field_append_low ..)
  case highBit =>
    rw [Eight.get_set_same]
    exact (bit_append ..).trans (bit_field_one ..)
  case otherX => exact fun m hm h => Eight.get_set_other _ _ hn hm h
  case otherY => exact fun m hm h => Eight.get_set_other _ _ hn hm h
  case highBits =>
    intro n hn
    rw [Eight.get_mapIdx _ _ hn]
    exact ⟨(bit_append ..).trans (bit_bitOf ..), field_append_low ..⟩

/-- Settles O1: each access returns its register; MSBX gathers bit 8 of every X. -/
theorem vicSpriteReads : Obligations.VicSpriteReads := by
  intro s
  refine ⟨fun n _ => exec_rVicMnX s n, fun n _ => exec_rVicMnY s n, ⟨_, exec_rVicMsbx s, ?highBits⟩, exec_rVicMxe s,
    exec_rVicMxye s⟩
  case highBits =>
    intro n hn
    rw [bit_toByte _ hn, Eight.get_mapIdx _ _ hn]

/-- Settles O2: each access returns its register on the host data bus, CR1 with the line's bit and IRR with the summary. -/
theorem vicControlReads : Obligations.VicControlReads := by
  intro s
  simp only [exec_rVicCr1, exec_rVicRaster, exec_rVicCr2, exec_rVicMemptr, exec_rVicIrr, exec_rVicImr, exec_rVicMxdp, exec_rVicMxmc,
    exec_rVicMxxe, hostReturns_eq, bitOf_append_field_seven, irrRead_eq, and_self]

/-- Settles O3, register by register of the two lists. -/
theorem vicColourReads : Obligations.VicColourReads := by
  intro s
  refine ⟨?colours, ?unused⟩
  case colours =>
    intro p hp
    rw [← ones_append_nibble]
    fin_cases hp <;> rfl
  case unused =>
    intro i hi
    fin_cases hi <;> rfl

/-- Settles O4: the read clears its register and returns what it held. -/
theorem vicCollisionReads : Obligations.VicCollisionReads := by
  intro s
  simp only [exec_rVicMm, exec_rVicMd, hostReturns_eq, and_self]

/-- Settles O7, register by register of the list; a colour is the low four bits of the byte. -/
theorem vicPlainWrites : Obligations.VicPlainWrites := by
  intro s d c r q hq
  have hc : c = field d 0 4 := setWidth_eq_field d (by decide)
  rw [hc] at hq
  fin_cases hq <;> rfl

/-- Settles O9, register by register of the list. -/
theorem vicIgnoredWrites : Obligations.VicIgnoredWrites := by
  intro s d i hi
  fin_cases hi <;> rfl

/-- Settles O10: the write changes its register, and the update drives the line from the new one. -/
theorem vicInterruptWrites : Obligations.VicInterruptWrites := by
  intro s d
  simp only [exec_wVicIrr, exec_wVicImr, updateVicIrq_eq, and_self]

end Sys2Proof.Proofs
end

section
/-!
PROOFS. 43_vic_raster.md: the refresh and idle accesses, and the border flip-flops with an equation for each kind of pixel and line.
-/

namespace Sys2Proof.Machine

/-! ### Refresh and idle accesses (R733, R734) -/

@[simp] theorem exec_vaR (s : State) : exec .vaR s = .next { s.vicBus (refreshAddress s.vic.refreshCounter) with
    vic := { s.vic with refreshCounter := s.vic.refreshCounter - 1 } } := rfl

@[simp] theorem exec_vaI (s : State) : exec .vaI s = .next (s.vicBus idleAddress) := rfl

/-! ### The compares of one pixel (R770, R771) -/

theorem leftComparisonValue_ne_right (r : VicRegs) : leftComparisonValue r ≠ rightComparisonValue r := by
  unfold leftComparisonValue rightComparisonValue
  cases r.csel <;> decide

section
variable (f : BorderFF) {r : VicRegs} {x : BitVec 16}

/-- At the right coordinate the vertical flip-flop has no say. -/
theorem compare_of_eq_right (h : x = rightComparisonValue r) : f.compare r x = { f with main := true } := by
  simp [BorderFF.compare, h, (leftComparisonValue_ne_right r).symm]

/-- At the left coordinate a set vertical flip-flop keeps the main one as it is. -/
theorem compare_of_eq_left (h : x = leftComparisonValue r) : f.compare r x = { f with main := f.main && f.vertical } := by
  obtain ⟨main, vertical⟩ := f
  cases vertical <;> simp [BorderFF.compare, h, leftComparisonValue_ne_right]

theorem compare_of_ne (hl : x ≠ leftComparisonValue r) (hr : x ≠ rightComparisonValue r) : f.compare r x = f := by
  simp [BorderFF.compare, hl, hr]

/-- A pixel never changes the vertical flip-flop. -/
theorem compare_vertical : (f.compare r x).vertical = f.vertical := by
  by_cases hr : x = rightComparisonValue r
  · rw [compare_of_eq_right f hr]
  by_cases hl : x = leftComparisonValue r
  · rw [compare_of_eq_left f hl]
  · rw [compare_of_ne f hl hr]

end

/-! ### The vertical compare (R772) -/

/-- The upper line's reset has the last word; without DEN the upper line does nothing. -/
theorem verticalCompare_eq (v : Vic) : v.verticalCompare =
    { v with ff := { v.ff with
        vertical :=
          if v.yCounter = upperComparisonValue v.reg ∧ v.reg.den = true then false
          else if v.yCounter = lowerComparisonValue v.reg then true else v.ff.vertical } } := by
  simp only [Vic.verticalCompare, beq_iff_eq, Bool.and_eq_true]
  split_ifs <;> rfl

end Sys2Proof.Machine

namespace Sys2Proof.Proofs

open Sys2Proof Sys2Proof.Machine

/-- Settles O28: each access drives its address; the refresh access also counts down. -/
theorem refreshAndIdle : Obligations.RefreshAndIdle := by
  intro s
  simp only [exec_vaR, exec_vaI, State.vicBus, refreshAddress, idleAddress, and_self]

/-- Settles O50: by the kind of pixel, with the compare values of R773 in the place of the numbers. -/
theorem borderCompares : Obligations.BorderCompares := by
  intro v r x
  refine ⟨compare_vertical v.ff, ?right, ?left, ?elsewhere, verticalCompare_eq v⟩
  case right => exact fun h => congrArg BorderFF.main (compare_of_eq_right v.ff h)
  case left => exact fun h => congrArg BorderFF.main (compare_of_eq_left v.ff h)
  case elsewhere => exact fun hl hr => congrArg BorderFF.main (compare_of_ne v.ff hl hr)

end Sys2Proof.Proofs
end

section
/-!
PROOFS. 44_vic_sprites.md: the accesses the PAL table schedules in phi1 for a sprite, and the pointer and second byte accesses made
there.
-/

namespace Sys2Proof.Machine

/-! ### Addresses (R306) -/

theorem pAddress_toNat (r : VicRegs) {n : Nat} (hn : n < 8) :
    (pAddress r n).toNat = r.memptr.toNat / 16 * 0x400 + 0x3f8 + n := by
  have hvm : r.vm.toNat = r.memptr.toNat / 16 := by
    rw [VicRegs.vm, BitVec.extractLsb'_toNat, Nat.shiftRight_eq_div_pow, Nat.mod_eq_of_lt (by omega)]
  have hones : (0x7f : BitVec 7).toNat = 0x7f := rfl
  rw [pAddress, BitVec.toNat_append, BitVec.toNat_append, hvm, hones, BitVec.toNat_ofNat, Nat.mod_eq_of_lt hn,
    ← Nat.shiftLeft_add_eq_or_of_lt hn, ← Nat.shiftLeft_add_eq_or_of_lt (by decide), Nat.shiftLeft_eq, Nat.shiftLeft_eq]
  omega

theorem sAddress_eq (ptr : BitVec 16) (mc : BitVec 6) : sAddress ptr mc = ptr.setWidth 14 ||| mc.setWidth 14 := by
  rw [sAddress, BitVec.setWidth_or, BitVec.setWidth_setWidth_of_le _ (by decide)]

/-! ### The phi1 slots of the PAL table (R701, R730) -/

theorem getD_eq_palP {n : Nat} (hn : n < 8) : [58, 60, 62, 1, 3, 5, 7, 9].getD n 0 = palP n := by
  interval_cases n <;> rfl

theorem palRow?_palP (n : Fin 8) : (palRow? (palP n)).map CycleRow.phi1 = some (.p n) := by
  fin_cases n <;> rfl

theorem palRow?_palP_succ (n : Fin 8) : (palRow? (palP n + 1)).map CycleRow.phi1 = some (.s2 n) := by
  fin_cases n <;> rfl

section
variable {s : State} {n : Fin 8}

theorem row?_of_pal (h : s.cfg.vicRevision = .pal6569) : s.row? = palRow? s.vic.rasterCycle := by
  simp [State.row?, cycleRow?, h]

/-- Cycle P(n) has a row, and it schedules sprite n's p-access. -/
theorem exists_row_p (h : s.cfg.vicRevision = .pal6569) (hc : s.vic.rasterCycle = palP n) :
    ∃ row, s.row? = some row ∧ row.phi1 = .p n := by
  rw [row?_of_pal h, hc]
  exact Option.map_eq_some_iff.mp (palRow?_palP n)

/-- Cycle P(n)+1 has a row, and it schedules sprite n's s2-access. -/
theorem exists_row_s2 (h : s.cfg.vicRevision = .pal6569) (hc : s.vic.rasterCycle = palP n + 1) :
    ∃ row, s.row? = some row ∧ row.phi1 = .s2 n := by
  rw [row?_of_pal h, hc]
  exact Option.map_eq_some_iff.mp (palRow?_palP_succ n)

theorem phi1Word_p (v : Vic) {row : CycleRow} (h : row.phi1 = .p n) : v.phi1Word row = 0x4 := by
  simp [Vic.phi1Word, h]

theorem phi1Word_s2 (v : Vic) {row : CycleRow} (h : row.phi1 = .s2 n) :
    v.phi1Word row = if (v.sprites.get n).dma then 0x6 else 0x1 := by
  simp [Vic.phi1Word, h]

/-! ### Pointer and second byte accesses (R840, R842) -/

theorem exec_vaP (h : s.phi1Sprite = some n) : exec .vaP s = .next
    ((s.vicBus (pAddress s.vic.reg n)).mapSprite n fun p =>
      { p with ptr := (s.vicByte (pAddress s.vic.reg n)).setWidth 16 <<< 6 }) := by
  change inSlot s.phi1Sprite _ = _
  rw [h, inSlot]

theorem exec_vaS2 (h : s.phi1Sprite = some n) : exec .vaS2 s = .next
    ((s.vicBus (sAddress (s.vic.sprites.get n).ptr (s.vic.sprites.get n).mc)).mapSprite n fun p =>
      { p with
        ssr := { p.ssr with chunk2 := s.vicByte (sAddress (s.vic.sprites.get n).ptr (s.vic.sprites.get n).mc) }
        mc := p.mc + 1 }) := by
  change inSlot s.phi1Sprite _ = _
  rw [h, inSlot]

end

end Sys2Proof.Machine

namespace Sys2Proof.Proofs

open Sys2Proof Sys2Proof.Machine

/-- Settles O31: the table's row of the cycle names sprite n, so the access is scheduled there and made for that sprite. -/
theorem pointerAndSecondByte : Obligations.PointerAndSecondByte := by
  intro s n hn hpal pn _
  have hpn : pn = palP n := getD_eq_palP hn
  lift n to Fin 8 using hn
  refine ⟨fun hc => ?pointer, fun hc => ?secondByte⟩
  case pointer =>
    obtain ⟨row, hrow, hphi1⟩ := exists_row_p hpal (hc.trans hpn)
    refine ⟨pAddress_toNat _ n.isLt, ?_, exec_vaP (phi1Sprite_of_row hrow (.inl hphi1))⟩
    rw [hrow, Option.map_some, phi1Word_p _ hphi1]
  case secondByte =>
    obtain ⟨row, hrow, hphi1⟩ := exists_row_s2 hpal (by rw [hc, hpn])
    rw [← sAddress_eq]
    refine ⟨?_, exec_vaS2 (phi1Sprite_of_row hrow (.inr hphi1))⟩
    rw [hrow, Option.map_some, phi1Word_s2 _ hphi1]

end Sys2Proof.Proofs
end

section
/-!
PROOFS. The VIA accesses of 46_via.md that read, and those that write ports, directions and timer latches: an equation for each access,
the flags and the handshake of a port access as one record update, and the three statements about them.
-/

namespace Sys2Proof.Machine

/-! ### Parts of a register -/

theorem withHi_eq_append (v : BitVec 16) (d : Byte) : withHi v d = d ++ field v 0 8 := rfl

theorem ca2Mode_eq_field (pcr : Byte) : ca2Mode pcr = field pcr 1 3 := rfl
theorem cb2Mode_eq_field (pcr : Byte) : cb2Mode pcr = field pcr 5 3 := rfl

/-! ### Interrupt flags (R1000, R1036) -/

theorem viaIrqCondition_eq (x : Via) : viaIrqCondition x = decide (x.ifr &&& x.ier &&& 0x7f ≠ 0) := by
  rw [Bool.eq_iff_iff]
  simp [viaIrqCondition]

theorem ifrRead_eq (x : Via) :
    ifrRead x = (x.ifr &&& 0x7f) ||| (if x.ifr &&& x.ier &&& 0x7f = 0 then 0x00 else 0x80) := by
  simp only [ifrRead, viaIrqCondition_eq, ne_eq, decide_not, Bool.not_eq_true', decide_eq_false_iff_not, ite_not]

theorem clearIfr_ifrSR (x : Via) : x.clearIfr ifrSR = { x with ifr := x.ifr &&& 0xfb } := rfl
theorem clearIfr_ifrT2 (x : Via) : x.clearIfr ifrT2 = { x with ifr := x.ifr &&& 0xdf } := rfl
theorem clearIfr_ifrT1 (x : Via) : x.clearIfr ifrT1 = { x with ifr := x.ifr &&& 0xbf } := rfl

/-! ### Port accesses (R1005-R1007, R1041) -/

theorem isIndependent_iff (m : BitVec 3) : isIndependent m = true ↔ m = 1 ∨ m = 3 := by
  simp [isIndependent]

/-- Mode 100 takes the line down, mode 101 takes it down for a pulse, and every other mode leaves line and pulse as they are. -/
theorem handshake_eq {α : Type} (mode : BitVec 3) (line pulse : Bool) (f : Bool → Bool → α) :
    (if mode = 4 then f false pulse else if mode = 5 then f false true else f line pulse) =
      f (line && mode != 4 && mode != 5) (pulse || mode == 5) := by
  split_ifs with h4 h5
  · simp [h4]
  · simp [h5]
  · rw [bne_iff_ne.mpr h4, bne_iff_ne.mpr h5, beq_false_of_ne h5, Bool.and_true, Bool.and_true, Bool.or_false]

theorem clearPortAFlags_eq (x : Via) : x.clearPortAFlags =
    { x with ifr := if ca2Mode x.pcr = 1 ∨ ca2Mode x.pcr = 3 then x.ifr &&& 0xfd else x.ifr &&& 0xfc } := by
  have both : (x.ifr &&& 0xfd) &&& 0xfe = x.ifr &&& 0xfc := BitVec.and_assoc ..
  simp only [← isIndependent_iff, ← both]
  cases h : isIndependent (ca2Mode x.pcr) <;> simp only [Via.clearPortAFlags, h] <;> rfl

theorem clearPortBFlags_eq (x : Via) : x.clearPortBFlags =
    { x with ifr := if cb2Mode x.pcr = 1 ∨ cb2Mode x.pcr = 3 then x.ifr &&& 0xef else x.ifr &&& 0xe7 } := by
  have both : (x.ifr &&& 0xef) &&& 0xf7 = x.ifr &&& 0xe7 := BitVec.and_assoc ..
  simp only [← isIndependent_iff, ← both]
  cases h : isIndependent (cb2Mode x.pcr) <;> simp only [Via.clearPortBFlags, h] <;> rfl

/-- A port A access clears the flags and then makes CA2's handshake. -/
theorem portAAccess_handshake (x : Via) : x.portAAccess =
    { x.clearPortAFlags with
      ca2 := x.clearPortAFlags.ca2 && ca2Mode x.pcr != 4 && ca2Mode x.pcr != 5
      ca2Pulse := x.clearPortAFlags.ca2Pulse || ca2Mode x.pcr == 5 } :=
  handshake_eq (ca2Mode x.pcr) _ _ fun line pulse => ({ x.clearPortAFlags with ca2 := line, ca2Pulse := pulse } : Via)

theorem portAAccess_eq (x : Via) : x.portAAccess =
    { x with
      ifr := if ca2Mode x.pcr = 1 ∨ ca2Mode x.pcr = 3 then x.ifr &&& 0xfd else x.ifr &&& 0xfc
      ca2 := x.ca2 && ca2Mode x.pcr != 4 && ca2Mode x.pcr != 5
      ca2Pulse := x.ca2Pulse || ca2Mode x.pcr == 5 } := by
  rw [portAAccess_handshake, clearPortAFlags_eq]

/-- A port B write clears the flags and then makes CB2's handshake. -/
theorem portBWrite_handshake (x : Via) : x.portBWrite =
    { x.clearPortBFlags with
      cb2 := x.clearPortBFlags.cb2 && cb2Mode x.pcr != 4 && cb2Mode x.pcr != 5
      cb2Pulse := x.clearPortBFlags.cb2Pulse || cb2Mode x.pcr == 5 } :=
  handshake_eq (cb2Mode x.pcr) _ _ fun line pulse => ({ x.clearPortBFlags with cb2 := line, cb2Pulse := pulse } : Via)

theorem portBWrite_eq (x : Via) : x.portBWrite =
    { x with
      ifr := if cb2Mode x.pcr = 1 ∨ cb2Mode x.pcr = 3 then x.ifr &&& 0xef else x.ifr &&& 0xe7
      cb2 := x.cb2 && cb2Mode x.pcr != 4 && cb2Mode x.pcr != 5
      cb2Pulse := x.cb2Pulse || cb2Mode x.pcr == 5 } := by
  rw [portBWrite_handshake, clearPortBFlags_eq]

variable (s : State) (v : ViaId) (d : Byte)

/-! ### Drive reads without a side effect (R1008-R1038) -/

theorem driveReturns_eq (b : Byte) : s.driveReturns b = .next { s with driveData := b } := rfl

@[simp] theorem exec_rViaDdrb : exec (.rViaDdrb v) s = s.driveReturns (s.via v).ddrb := rfl
@[simp] theorem exec_rViaDdra : exec (.rViaDdra v) s = s.driveReturns (s.via v).ddra := rfl
@[simp] theorem exec_rViaT1ch : exec (.rViaT1ch v) s = s.driveReturns (hiByte (s.via v).t1Counter) := rfl
@[simp] theorem exec_rViaT1ll : exec (.rViaT1ll v) s = s.driveReturns (loByte (s.via v).t1Latch) := rfl
@[simp] theorem exec_rViaT1lh : exec (.rViaT1lh v) s = s.driveReturns (hiByte (s.via v).t1Latch) := rfl
@[simp] theorem exec_rViaT2ch : exec (.rViaT2ch v) s = s.driveReturns (hiByte (s.via v).t2Counter) := rfl
@[simp] theorem exec_rViaAcr : exec (.rViaAcr v) s = s.driveReturns (s.via v).acr := rfl
@[simp] theorem exec_rViaPcr : exec (.rViaPcr v) s = s.driveReturns (s.via v).pcr := rfl
@[simp] theorem exec_rViaIfr : exec (.rViaIfr v) s = s.driveReturns (ifrRead (s.via v)) := rfl
@[simp] theorem exec_rViaIer : exec (.rViaIer v) s = s.driveReturns ((s.via v).ier ||| 0x80) := rfl

/-! ### Drive reads of port A, and those that clear a flag (R1006, R1012, R1024, R1030, R1042) -/

@[simp] theorem exec_rViaOra : exec (.rViaOra v) s =
    (s.viaAccess v (s.via v).portAAccess).driveReturns (viaReadPA (s.via v) (s.viaPaIn v)) := rfl

@[simp] theorem exec_rViaT1cl : exec (.rViaT1cl v) s =
    (s.viaAccess v ((s.via v).clearIfr ifrT1)).driveReturns (loByte (s.via v).t1Counter) := rfl

@[simp] theorem exec_rViaT2cl : exec (.rViaT2cl v) s =
    (s.viaAccess v ((s.via v).clearIfr ifrT2)).driveReturns (loByte (s.via v).t2Counter) := rfl

@[simp] theorem exec_rViaSr : exec (.rViaSr v) s =
    (s.viaAccess v ((s.via v).clearIfr ifrSR)).driveReturns (s.via v).sr := rfl

@[simp] theorem exec_rViaOraNh : exec (.rViaOraNh v) s = s.driveReturns (viaReadPA (s.via v) (s.viaPaIn v)) := rfl

/-! ### Drive writes of ports, directions and timers (R1005-R1013, R1017, R1019, R1025, R1027, R1043) -/

@[simp] theorem exec_wViaOrb : exec (.wViaOrb v d) s = .next (s.viaAccess v { s.via v with orb := d }.portBWrite) := rfl
@[simp] theorem exec_wViaOra : exec (.wViaOra v d) s = .next (s.viaAccess v { s.via v with ora := d }.portAAccess) := rfl
@[simp] theorem exec_wViaDdrb : exec (.wViaDdrb v d) s = .next (s.viaAccess v { s.via v with ddrb := d }) := rfl
@[simp] theorem exec_wViaDdra : exec (.wViaDdra v d) s = .next (s.viaAccess v { s.via v with ddra := d }) := rfl
@[simp] theorem exec_wViaOraNh : exec (.wViaOraNh v d) s = .next (s.viaAccess v { s.via v with ora := d }) := rfl

@[simp] theorem exec_wViaT1cl : exec (.wViaT1cl v d) s =
    .next (s.viaAccess v { s.via v with t1Latch := withLo (s.via v).t1Latch d }) := rfl

@[simp] theorem exec_wViaT1ll : exec (.wViaT1ll v d) s =
    .next (s.viaAccess v { s.via v with t1Latch := withLo (s.via v).t1Latch d }) := rfl

@[simp] theorem exec_wViaT1lh : exec (.wViaT1lh v d) s =
    .next (s.viaAccess v ({ s.via v with t1Latch := withHi (s.via v).t1Latch d }.clearIfr ifrT1)) := rfl

@[simp] theorem exec_wViaT2cl : exec (.wViaT2cl v d) s = .next (s.viaAccess v { s.via v with t2LatchLo := d }) := rfl

@[simp] theorem exec_wViaT2ch : exec (.wViaT2ch v d) s =
    .next (s.viaAccess v ({ s.via v with t2Counter := d ++ (s.via v).t2LatchLo, t2Armed := true }.clearIfr ifrT2)) := rfl

end Sys2Proof.Machine

namespace Sys2Proof.Proofs

open Sys2Proof Sys2Proof.Machine

/-- Settles O21: each access returns its register on the drive data bus, IFR with its summary. -/
theorem viaPlainReads : Obligations.ViaPlainReads := by
  intro s v x
  simp only [exec_rViaDdrb, exec_rViaDdra, exec_rViaT1ch, exec_rViaT1ll, exec_rViaT1lh, exec_rViaT2ch, exec_rViaAcr, exec_rViaPcr,
    exec_rViaIfr, exec_rViaIer, driveReturns_eq, loByte_eq_field, hiByte_eq_field, ifrRead_eq, and_self, x]

/-- Settles O22: both reads of port A return the byte its wiring gives; what the others clear is one bit of IFR. -/
theorem viaFlagReads : Obligations.ViaFlagReads := by
  intro s v x pins mode
  have hread : viaReadPA x (s.viaPaIn v) = (x.ora &&& x.ddra) ||| (pins &&& ~~~ x.ddra) := by cases v <;> rfl
  refine ⟨?ora, ?t1cl, ?t2cl, ?sr, ?oraNh⟩
  case ora => rw [exec_rViaOra, driveReturns_eq, hread, portAAccess_eq, ca2Mode_eq_field]
  case t1cl => rw [exec_rViaT1cl, driveReturns_eq, clearIfr_ifrT1, loByte_eq_field]
  case t2cl => rw [exec_rViaT2cl, driveReturns_eq, clearIfr_ifrT2, loByte_eq_field]
  case sr => rw [exec_rViaSr, driveReturns_eq, clearIfr_ifrSR]
  case oraNh => rw [exec_rViaOraNh, driveReturns_eq, hread]

/-- Settles O24: the port writes store the byte and then make their access; the others store it, and clear a flag where they have one. -/
theorem viaPortAndTimerWrites : Obligations.ViaPortAndTimerWrites := by
  intro s v d x ma mb
  refine ⟨?orb, ?ora, exec_wViaDdrb s v d, exec_wViaDdra s v d, exec_wViaOraNh s v d, ?t1cl, ?t1ll, ?t1lh, exec_wViaT2cl s v d, ?t2ch⟩
  case orb => rw [exec_wViaOrb, portBWrite_eq, cb2Mode_eq_field]
  case ora => rw [exec_wViaOra, portAAccess_eq, ca2Mode_eq_field]
  case t1cl => rw [exec_wViaT1cl, withLo_eq_append]
  case t1ll => rw [exec_wViaT1ll, withLo_eq_append]
  case t1lh => rw [exec_wViaT1lh, clearIfr_ifrT1, withHi_eq_append]
  case t2ch => rw [exec_wViaT2ch, clearIfr_ifrT2]

end Sys2Proof.Proofs
end

section
/-!
PROOFS. 47_disk.md, SYNC: what a byte-ready leaves of the head, what a bit does to the shift register, the SYNC flag and the bit counter,
and the shift register after many bits.
-/

namespace Sys2Proof.Machine

variable (s : State) (b : Bool) (bits : List Bool)

/-! ### A byte-ready leaves the shift register, SYNC, the bit counter and the mode (R1114) -/

/-- Of the head, a byte-ready reaches the write shift register and the byte-ready line; of VIA2, the input latch. -/
theorem byteReady_frame : ∃ ira wsr line so, s.byteReady = { s with
    via2 := { s.via2 with ira := ira }
    head := { s.head with writeShiftreg := wsr, byteReadyLine := line }
    soPulses := so } := by
  unfold State.byteReady
  split_ifs <;> exact ⟨_, _, _, _, rfl⟩

@[simp] theorem byteReady_readMode : s.byteReady.readMode = s.readMode := by
  obtain ⟨_, _, _, _, h⟩ := byteReady_frame s
  rw [h]
  rfl

@[simp] theorem byteReady_readShiftreg : s.byteReady.head.readShiftreg = s.head.readShiftreg := by
  obtain ⟨_, _, _, _, h⟩ := byteReady_frame s
  rw [h]

@[simp] theorem byteReady_sync : s.byteReady.head.sync = s.head.sync := by
  obtain ⟨_, _, _, _, h⟩ := byteReady_frame s
  rw [h]

@[simp] theorem byteReady_byteReadyCounter : s.byteReady.head.byteReadyCounter = s.head.byteReadyCounter := by
  obtain ⟨_, _, _, _, h⟩ := byteReady_frame s
  rw [h]

/-! ### One bit under the head (R1111) -/

@[simp] theorem takeBit_readMode : (s.takeBit b).readMode = s.readMode := by
  simp only [State.takeBit, apply_ite State.readMode, byteReady_readMode, ite_self]
  rfl

theorem takeBit_readShiftreg :
    (s.takeBit b).head.readShiftreg = s.head.readShiftreg <<< 1 ||| (bitOf b).setWidth 16 := by
  simp only [State.takeBit, apply_ite State.head, apply_ite Head.readShiftreg, byteReady_readShiftreg, ite_self]

/-- SYNC reads the ten latest bits off the shift register the bit has just entered. -/
theorem takeBit_sync :
    (s.takeBit b).head.sync = (s.readMode && ((s.takeBit b).head.readShiftreg &&& 0x3ff) == 0x3ff) := by
  rw [takeBit_readShiftreg]
  simp only [State.takeBit, apply_ite State.head, apply_ite Head.sync, byteReady_sync, ite_self]

theorem takeBit_byteReadyCounter :
    (s.takeBit b).head.byteReadyCounter = if (s.takeBit b).head.sync then 0 else s.head.byteReadyCounter + 1 := by
  rw [takeBit_sync, takeBit_readShiftreg]
  simp only [State.takeBit, apply_ite State.head, apply_ite Head.byteReadyCounter, byteReady_byteReadyCounter, ite_self]

/-- The bit enters at position 0 and the others move up. -/
theorem bit_takeBit_readShiftreg_zero : bit (s.takeBit b).head.readShiftreg 0 = b := by
  rw [takeBit_readShiftreg]
  cases b <;> simp [bit, bitOf]

theorem bit_takeBit_readShiftreg_succ {k : Nat} (hk : k + 1 < 16) :
    bit (s.takeBit b).head.readShiftreg (k + 1) = bit s.head.readShiftreg k := by
  have hnew : bit ((bitOf b).setWidth 16) (k + 1) = false := by cases b <;> simp [bit, bitOf]
  rw [takeBit_readShiftreg, bit_or, hnew, Bool.or_false]
  unfold bit
  rw [BitVec.getLsbD_shiftLeft]
  simp [hk]

/-! ### Many bits under the head (R1112) -/

theorem takeBits_concat : s.takeBits (bits ++ [b]) = (s.takeBits bits).takeBit b := List.foldl_concat ..

@[simp] theorem takeBits_readMode : (s.takeBits bits).readMode = s.readMode := by
  induction bits using List.reverseRecOn with
  | nil => rfl
  | append_singleton bits b ih => rw [takeBits_concat, takeBit_readMode, ih]

/-- The shift register holds the latest bits, the last one lowest. -/
theorem bit_takeBits_readShiftreg {k : Nat} (hk : k < 16) (h : k < bits.reverse.length) :
    bit (s.takeBits bits).head.readShiftreg k = bits.reverse[k] := by
  induction bits using List.reverseRecOn generalizing k with
  | nil => simp at h
  | append_singleton bits b ih =>
    simp only [takeBits_concat, List.reverse_concat] at h ⊢
    cases k with
    | zero => exact bit_takeBit_readShiftreg_zero ..
    | succ k =>
      rw [bit_takeBit_readShiftreg_succ _ _ hk]
      exact ih (by omega) (Nat.lt_of_succ_lt_succ h)

/-- The lowest ten bits of a word are all 1. -/
theorem and_lowTen_iff (v : BitVec 16) : v &&& 0x3ff = 0x3ff ↔ ∀ k < 10, bit v k = true := by
  have hmask : ∀ k < 16, bit (0x3ff : BitVec 16) k = decide (k < 10) := by decide
  refine ⟨fun h k hk => ?_, fun h => eq_of_bit fun k hk => ?_⟩
  · have hbit := congrArg (bit · k) h
    simpa only [bit_and, hmask k (by omega), hk, decide_true, Bool.and_true] using hbit
  · rw [bit_and, hmask k hk]
    by_cases hten : k < 10 <;> simp [hten, h]

/-- The ten lowest bits of the shift register are the last ten that passed. -/
theorem lowTen_takeBits_iff (h : 10 ≤ bits.length) :
    (s.takeBits bits).head.readShiftreg &&& 0x3ff = 0x3ff ↔ ∀ b ∈ bits.drop (bits.length - 10), b = true := by
  have hlen : 10 ≤ bits.reverse.length := by rwa [List.length_reverse]
  calc (s.takeBits bits).head.readShiftreg &&& 0x3ff = 0x3ff
    _ ↔ ∀ k (_ : k < 10), bits.reverse[k] = true := by
        rw [and_lowTen_iff]
        exact forall₂_congr fun k hk => by rw [bit_takeBits_readShiftreg s bits (by omega) (by omega)]
    _ ↔ ∀ b ∈ bits.reverse.take 10, b = true := by
        simp [List.forall_mem_iff_getElem, h]
    _ ↔ ∀ b ∈ bits.drop (bits.length - 10), b = true := by
        simp only [List.take_reverse, List.mem_reverse]

/-- The last of some bits meets the head in the mode it was in before them. -/
theorem exists_takeBits_eq_takeBit (h : bits ≠ []) :
    ∃ (t : State) (b : Bool), s.takeBits bits = t.takeBit b ∧ t.readMode = s.readMode := by
  obtain ⟨bits, b, rfl⟩ := (List.eq_nil_or_concat' bits).resolve_left h
  exact ⟨_, b, takeBits_concat .., takeBits_readMode ..⟩

/-- After the last of some bits SYNC stands as that bit left it. -/
theorem takeBits_sync (h : bits ≠ []) : (s.takeBits bits).head.sync =
    (s.readMode && ((s.takeBits bits).head.readShiftreg &&& 0x3ff) == 0x3ff) := by
  obtain ⟨t, b, htake, hmode⟩ := exists_takeBits_eq_takeBit s bits h
  rw [htake, takeBit_sync, hmode]

theorem takeBits_byteReadyCounter (h : bits ≠ []) (hs : (s.takeBits bits).head.sync = true) :
    (s.takeBits bits).head.byteReadyCounter = 0 := by
  obtain ⟨t, b, htake, -⟩ := exists_takeBits_eq_takeBit s bits h
  rw [htake] at hs ⊢
  rw [takeBit_byteReadyCounter, if_pos hs]

end Sys2Proof.Machine

namespace Sys2Proof.Proofs

open Sys2Proof Sys2Proof.Machine

/-- Settles O56: SYNC is read off the shift register, whose low ten bits are the last ten that passed. -/
theorem syncDetection : Obligations.SyncDetection := by
  intro s bits hlen t
  have hne : bits ≠ [] := List.ne_nil_of_length_pos (by omega)
  have hsync := takeBits_sync s bits hne
  refine ⟨fun hread => ?read, fun hwrite => ?write, takeBits_byteReadyCounter s bits hne, ?pb7⟩
  case read => rw [← lowTen_takeBits_iff s bits hlen, hsync, hread, Bool.true_and, beq_iff_eq]
  case write => rw [hsync, hwrite, Bool.false_and]
  case pb7 => exact bit_withBit ..

end Sys2Proof.Proofs
end

section
/-!
PROOFS. 47_disk.md, GCR: how long a run of one bit can be where words are joined, and the runs of the code words.
-/

namespace Sys2Proof.Machine

/-! ### Runs in joined words -/

/-- At most `k` copies of `x` stand at each end of a word longer than that, and at most `2 * k` in a row anywhere in it. -/
structure RunBounded {α : Type} (k : Nat) (x : α) (w : List α) : Prop where
  length : k < w.length
  front : ¬ List.replicate (k + 1) x <+: w
  back : ¬ List.replicate (k + 1) x <:+ w
  inside : ¬ List.replicate (2 * k + 1) x <:+: w

section
variable {α : Type} {k : Nat} {x : α} {w l : List α}

theorem replicate_prefix_replicate {m n : Nat} (h : m ≤ n) (x : α) : List.replicate m x <+: List.replicate n x :=
  List.prefix_replicate_iff.mpr (by simp [h])

theorem replicate_suffix_replicate {m n : Nat} (h : m ≤ n) (x : α) : List.replicate m x <:+ List.replicate n x :=
  List.suffix_replicate_iff.mpr (by simp [h])

/-- A run at the front of joined words lies in the first one. -/
theorem RunBounded.front_append (hw : RunBounded k x w) : ¬ List.replicate (k + 1) x <+: w ++ l := by
  intro h
  exact hw.front (List.prefix_of_prefix_length_le h (List.prefix_append w l) (by simpa using hw.length))

/-- A run of `2 * k + 1` across a joint has more than `k` on one side of it. -/
theorem RunBounded.inside_append (hw : RunBounded k x w) (hf : ¬ List.replicate (k + 1) x <+: l)
    (hi : ¬ List.replicate (2 * k + 1) x <:+: l) : ¬ List.replicate (2 * k + 1) x <:+: w ++ l := by
  intro h
  obtain h | h | ⟨u, v, huv, hu, hv⟩ := List.infix_append_iff.mp h
  · exact hw.inside h
  · exact hi h
  · obtain ⟨hlen, hrepu, hrepv⟩ := List.replicate_eq_append_iff.mp huv
    rw [hrepu] at hu
    rw [hrepv] at hv
    obtain hk | hk : k + 1 ≤ u.length ∨ k + 1 ≤ v.length := by omega
    · exact hw.back ((replicate_suffix_replicate hk x).trans hu)
    · exact hf ((replicate_prefix_replicate hk x).trans hv)

/-- Words of bounded runs joined to any length have no run of `2 * k + 1`. -/
theorem RunBounded.flatMap {β : Type} {f : β → List α} (hf : ∀ b, RunBounded k x (f b)) (bs : List β) :
    ¬ List.replicate (k + 1) x <+: bs.flatMap f ∧ ¬ List.replicate (2 * k + 1) x <:+: bs.flatMap f := by
  induction bs with
  | nil => simp
  | cons b bs ih =>
    obtain ⟨hfront, hinside⟩ := ih
    rw [List.flatMap_cons]
    exact ⟨(hf b).front_append, (hf b).inside_append hfront hinside⟩

end

/-! ### The code words (R1150) -/

/-- No word begins or ends with two 0 bits, and none has three in a row. -/
theorem gcrCode_zeros (n : Nibble) : RunBounded 1 false (bitsOf (gcrCode n)) := by
  constructor <;> revert n <;> decide

/-- No word begins or ends with five 1 bits: none is all ones. -/
theorem gcrCode_ones (n : Nibble) : RunBounded 4 true (bitsOf (gcrCode n)) := by
  constructor <;> revert n <;> decide

/-- The nibbles of some bytes in the order they are coded in. -/
def nibblesOf (l : List Byte) : List Nibble := l.flatMap fun b => [field b 4 4, field b 0 4]

/-- GCR bits are code words joined. -/
theorem gcrEncode_eq_flatMap (l : List Byte) : gcrEncode l = (nibblesOf l).flatMap fun n => bitsOf (gcrCode n) := by
  simp only [nibblesOf, List.flatMap_assoc, List.flatMap_cons, List.flatMap_nil, List.append_nil]
  rfl

end Sys2Proof.Machine

namespace Sys2Proof.Proofs

open Sys2Proof Sys2Proof.Machine

/-- Settles O58: the bits are code words joined, and these have one 0 bit or four 1 bits at most at their ends. -/
theorem gcrNeverSyncs : Obligations.GcrNeverSyncs := by
  refine ⟨rfl, fun l => ⟨rfl, ?zeros, ?ones⟩⟩
  case zeros =>
    rw [gcrEncode_eq_flatMap]
    exact (RunBounded.flatMap gcrCode_zeros _).2
  case ones =>
    rw [gcrEncode_eq_flatMap]
    exact (RunBounded.flatMap gcrCode_ones _).2

end Sys2Proof.Proofs
end

section
/-!
PROOFS. 30_encoding.md: the row of the opcode table that a word selects, the word a row's operation has, and the two directions of the
encoding.
-/

namespace Sys2Proof

open Machine

/-! ### Decoding by the table's rows (R300) -/

/-- A word decodes exactly if it fits its format and selects a row, and the row then makes the operation. -/
theorem decode_eq_ok {b : BusWord} {i : Instr} : decode b = .ok i ↔
    b.word.toNat < 2 ^ b.port.width ∧ ∃ r, b.port.rows.find? (fun r => b.word &&& r.mask == r.pat) = some r ∧ r.make b.word b.data = i := by
  unfold decode
  split
  · simp_all
  · rename_i hfit
    rw [Nat.not_le] at hfit
    cases b.port.rows.find? fun r => b.word &&& r.mask == r.pat <;> simp [hfit]

/-- The row that a word which fits its format selects gives its operation. -/
theorem decode_of_row {p : Port} {w d : Byte} {r : OpRow} {i : Instr} (hw : decide (w.toNat < 2 ^ p.width) = true)
    (hr : p.rows.find? (fun r => w &&& r.mask == r.pat) = some r) (hi : r.make w d = i) : decode ⟨p, w, d⟩ = .ok i :=
  decode_eq_ok.mpr ⟨of_decide_eq_true hw, r, hr, hi⟩

/-! ### The words of a row (R301-R304) -/

/-- The operand field of a row's words: a word of the format is the row's pattern with its field, and the pattern alone says whether the
word carries data. -/
def FieldOf (p : Port) (mask : Byte) (operand : Byte → Byte) : Prop := ∀ w : Byte, w.toNat < 2 ^ p.width →
  (w &&& mask) ||| operand w = w ∧ carriesData ⟨p, w &&& mask, 0⟩ = carriesData ⟨p, w, 0⟩

theorem fieldOf_hv : FieldOf .hv 0x7f fun _ => 0 := by unfold FieldOf; decide
theorem fieldOf_sprite : FieldOf .hv 0x71 fun w => spriteBits (spriteField w) := by unfold FieldOf; decide
theorem fieldOf_cia : FieldOf .hc 0x2f fun w => (ciaField w).bits := by unfold FieldOf; decide
theorem fieldOf_via : FieldOf .dv 0x2f fun w => (viaField w).bits := by unfold FieldOf; decide
theorem fieldOf_va : FieldOf .va 0xf fun _ => 0 := by unfold FieldOf; decide

theorem spriteField_lt (w : Byte) : spriteField w < 8 := by revert w; decide

/-- Every word of the format that selects the row is the word of the row's operation, which is well formed; a write takes the data byte. -/
def OpRow.Reads (p : Port) (r : OpRow) : Prop := ∀ w d : Byte, w.toNat < 2 ^ p.width → w &&& r.mask = r.pat →
  (r.make w d).wellFormed = true ∧ encode (r.make w d) = ⟨p, w, if carriesData ⟨p, w, d⟩ then d else 0⟩

theorem OpRow.Reads.of_field {p : Port} {r : OpRow} {operand : Byte → Byte} (hm : FieldOf p r.mask operand)
    (hwf : ∀ w d, (r.make w d).wellFormed = true)
    (he : ∀ w d, encode (r.make w d) = ⟨p, r.pat ||| operand w, if carriesData ⟨p, r.pat, 0⟩ then d else 0⟩) : r.Reads p := by
  intro w d hfit hpat
  obtain ⟨hword, hcarries⟩ := hm w hfit
  have hd : carriesData ⟨p, w, d⟩ = carriesData ⟨p, w, 0⟩ := by cases p <;> rfl
  rw [hpat] at hword hcarries
  exact ⟨hwf w d, by rw [he, hword, hd, hcarries]⟩

/-- Row by row: the two sprite rows, then those without an operand. -/
theorem hvReadRows_reads : ∀ r ∈ hvReadRows, r.Reads .hv := by
  simp only [hvReadRows, List.forall_mem_append, List.forall_mem_cons, List.not_mem_nil, false_implies, implies_true, and_true, and_assoc]
  refine ⟨.of_field fieldOf_sprite (fun w _ => decide_eq_true (spriteField_lt w)) fun _ _ => rfl,
    .of_field fieldOf_sprite (fun w _ => decide_eq_true (spriteField_lt w)) fun _ _ => rfl, ?_⟩
  and_intros
  all_goals exact .of_field fieldOf_hv (fun _ _ => rfl) fun _ _ => rfl

theorem hvWriteRows_reads : ∀ r ∈ hvWriteRows, r.Reads .hv := by
  simp only [hvWriteRows, List.forall_mem_append, List.forall_mem_cons, List.not_mem_nil, false_implies, implies_true, and_true, and_assoc]
  refine ⟨.of_field fieldOf_sprite (fun w _ => decide_eq_true (spriteField_lt w)) fun _ _ => rfl,
    .of_field fieldOf_sprite (fun w _ => decide_eq_true (spriteField_lt w)) fun _ _ => rfl, ?_⟩
  and_intros
  all_goals exact .of_field fieldOf_hv (fun _ _ => rfl) fun _ _ => rfl

theorem hcRows_reads : ∀ r ∈ hcRows, r.Reads .hc := by
  simp only [hcRows, List.forall_mem_append, List.forall_mem_cons, List.not_mem_nil, false_implies, implies_true, and_true]
  and_intros
  all_goals exact .of_field fieldOf_cia (fun _ _ => rfl) fun _ _ => rfl

theorem dvRows_reads : ∀ r ∈ dvRows, r.Reads .dv := by
  simp only [dvRows, List.forall_mem_append, List.forall_mem_cons, List.not_mem_nil, false_implies, implies_true, and_true]
  and_intros
  all_goals exact .of_field fieldOf_via (fun _ _ => rfl) fun _ _ => rfl

theorem vaRows_reads : ∀ r ∈ vaRows, r.Reads .va := by
  simp only [vaRows, List.forall_mem_cons, List.not_mem_nil, false_implies, implies_true, and_true]
  and_intros
  all_goals exact .of_field fieldOf_va (fun _ _ => rfl) fun _ _ => rfl

theorem rows_reads (p : Port) : ∀ r ∈ p.rows, r.Reads p := by
  cases p with
  | hv => exact List.forall_mem_append.mpr ⟨hvReadRows_reads, hvWriteRows_reads⟩
  | hc => exact hcRows_reads
  | dv => exact dvRows_reads
  | va => exact vaRows_reads

/-! ### The words that select a row (R304, R310) -/

/-- HV, HC and DV give every word of their width a row, VA all but the reserved ones. -/
theorem find_isSome_iff (p : Port) (w : Byte) (h : w.toNat < 2 ^ p.width) :
    (p.rows.find? fun r => w &&& r.mask == r.pat).isSome = true ↔ ¬ (p = .va ∧ reservedVicWord w = true) := by
  revert w
  cases p <;> decide

end Sys2Proof

namespace Sys2Proof.Proofs

open Sys2Proof Sys2Proof.Machine

/-- Settles O33, operation by operation: a sprite's or a chip's number at each of its values, the word selects its row. -/
theorem decodeEncode : Obligations.DecodeEncode := by
  intro i hi
  cases i
  case rVicMnX n | rVicMnY n =>
    have hn : n < 8 := of_decide_eq_true hi
    interval_cases n <;> exact decode_of_row rfl rfl (by rfl)
  case wVicMnX n d | wVicMnY n d =>
    have hn : n < 8 := of_decide_eq_true hi
    interval_cases n <;> exact decode_of_row rfl rfl (by rfl)
  case rCiaPra c | rCiaPrb c | rCiaDdra c | rCiaDdrb c | rCiaTaLo c | rCiaTaHi c | rCiaTbLo c | rCiaTbHi c | rCiaTod10ths c
      | rCiaTodSec c | rCiaTodMin c | rCiaTodHrs c | rCiaSdr c | rCiaIcr c | rCiaCra c | rCiaCrb c | wCiaPra c d | wCiaPrb c d
      | wCiaDdra c d | wCiaDdrb c d | wCiaTaLo c d | wCiaTaHi c d | wCiaTbLo c d | wCiaTbHi c d | wCiaTod10ths c d | wCiaTodSec c d
      | wCiaTodMin c d | wCiaTodHrs c d | wCiaSdr c d | wCiaIcr c d | wCiaCra c d | wCiaCrb c d =>
    cases c <;> exact decode_of_row rfl rfl (by rfl)
  case rViaOrb v | rViaOra v | rViaDdrb v | rViaDdra v | rViaT1cl v | rViaT1ch v | rViaT1ll v | rViaT1lh v | rViaT2cl v | rViaT2ch v
      | rViaSr v | rViaAcr v | rViaPcr v | rViaIfr v | rViaIer v | rViaOraNh v | wViaOrb v d | wViaOra v d | wViaDdrb v d | wViaDdra v d
      | wViaT1cl v d | wViaT1ch v d | wViaT1ll v d | wViaT1lh v d | wViaT2cl v d | wViaT2ch v d | wViaSr v d | wViaAcr v d
      | wViaPcr v d | wViaIfr v d | wViaIer v d | wViaOraNh v d =>
    cases v <;> exact decode_of_row rfl rfl (by rfl)
  all_goals exact decode_of_row rfl rfl (by rfl)

/-- Settles O34: the row that a word selects has that word for its operation, and only a reserved access selects none. -/
theorem encodeDecode : Obligations.EncodeDecode := by
  rintro ⟨p, w, d⟩
  refine ⟨fun i hi => ?word, ?decodes⟩
  case word =>
    obtain ⟨hfit, r, hr, rfl⟩ := decode_eq_ok.mp hi
    obtain ⟨hwf, he⟩ := rows_reads p r (List.mem_of_find?_eq_some hr) w d hfit (by simpa using List.find?_some hr)
    exact ⟨hwf, he.trans (by split <;> rfl)⟩
  case decodes =>
    simp only [decode_eq_ok, exists_and_left, exists_comm (α := Instr), exists_eq', and_true, ← Option.isSome_iff_exists]
    exact and_congr_right fun hfit => find_isSome_iff p w hfit

end Sys2Proof.Proofs
end

section
/-!
PROOFS. What the CIA's operations keep: the bits that a register or a pipeline lacks, the rule of the ports, and the interrupt flag.
-/

namespace Sys2Proof.Machine

/-! ### Bits that a word lacks -/

section
variable {w : Nat} {v u c : BitVec w}

theorem bit_zero (k : Nat) : bit (0 : BitVec w) k = false := by simp [bit]

theorem and_eq_zero_iff : v &&& c = 0 ↔ ∀ k, bit v k = true → bit c k = false := by
  constructor
  · intro h k hv
    have hk := congrArg (bit · k) h
    simpa only [bit_and, hv, Bool.true_and, bit_zero] using hk
  · intro h
    refine eq_of_bit fun k _ => ?_
    cases hv : bit v k
    · rw [bit_and, hv, Bool.false_and, bit_zero]
    · rw [bit_and, hv, h k hv, Bool.and_false, bit_zero]

theorem or_and_eq_zero (hv : v &&& c = 0) (hu : u &&& c = 0) : (v ||| u) &&& c = 0 := by
  rw [and_eq_zero_iff] at *
  intro k hk
  rw [bit_or, Bool.or_eq_true] at hk
  exact hk.elim (hv k) (hu k)

theorem and_and_eq_zero (hv : v &&& c = 0) (m : BitVec w) : v &&& m &&& c = 0 := by
  rw [and_eq_zero_iff] at *
  intro k hk
  rw [bit_and, Bool.and_eq_true] at hk
  exact hv k hk.1

theorem and_mask_and_eq_zero {m : BitVec w} (h : m &&& c = 0) (v : BitVec w) : v &&& m &&& c = 0 := by
  rw [BitVec.and_comm v]
  exact and_and_eq_zero h v

/-- One bit written, where it is none of those lacking. -/
theorem withBit_and_eq_zero {i : Nat} (hi : bit c i = false) (hv : v &&& c = 0) (b : Bool) : withBit v i b &&& c = 0 := by
  rw [and_eq_zero_iff] at hv ⊢
  intro k hk
  rw [bit_withBit] at hk
  split at hk
  · rename_i h
    exact h.1 ▸ hi
  · exact hv k hk

/-- Fewer bits lacking. -/
theorem and_eq_zero_of_subset {c' : BitVec w} (h : c' &&& c = c') (hv : v &&& c = 0) : v &&& c' = 0 := by
  rw [and_eq_zero_iff] at *
  intro k hk
  rw [← h, bit_and, hv k hk, Bool.and_false]

end

/-! ### The three things every change of a CIA keeps or is answerable for -/

/-- The change from `x` to `y` leaves the interrupt flag, and keeps the rules of the ports, of the unused bits and of the pipeline. -/
structure Cia.Keeps (x y : Cia) : Prop where
  int : y.int = x.int
  regular : x.regular → y.regular
  pipeline : x.pipelineDefined → y.pipelineDefined

namespace Cia.Keeps

variable {x y z : Cia}

theorem refl (x : Cia) : x.Keeps x := ⟨rfl, id, id⟩

theorem trans (h : x.Keeps y) (h' : y.Keeps z) : x.Keeps z :=
  ⟨h'.int.trans h.int, h'.regular ∘ h.regular, h'.pipeline ∘ h.pipeline⟩

/-- The change from `y` comes after one from `x`. -/
theorem after (h' : y.Keeps z) (h : x.Keeps y) : x.Keeps z := h.trans h'

theorem ite {p : Prop} [Decidable p] (h : x.Keeps y) (h' : x.Keeps z) : x.Keeps (if p then y else z) := by
  split <;> assumption

/-- A stage of the pipeline is set or cleared (R501). -/
theorem withDelay {x : Cia} {stage : Nat} (h : bit (~~~ definedStages) stage = false) (b : Bool) :
    x.Keeps { x with delay := withBit x.delay stage b } :=
  ⟨rfl, id, fun hp => ⟨withBit_and_eq_zero h hp.1 b, hp.2⟩⟩

theorem schedule {stage : Nat} (h : bit (~~~ definedStages) stage = false) : x.Keeps (x.schedule stage) := withDelay h true

theorem cancel {stage : Nat} (h : bit (~~~ definedStages) stage = false) : x.Keeps (x.cancel stage) := withDelay h false

/-- A sticky stage is fed or no longer fed (R503). -/
theorem setFeed {stage : Nat} (h : bit (~~~ stickyStages) stage = false) (b : Bool) : x.Keeps (x.setFeed stage b) :=
  ⟨rfl, id, fun hp => ⟨hp.1, withBit_and_eq_zero h hp.2 b⟩⟩

end Cia.Keeps

namespace Cia

variable (x : Cia)

/-- A bit of ICR that the register has. -/
theorem keeps_withIcr {k : Nat} (h : bit (0x60 : Byte) k = false) (b : Bool) : x.Keeps { x with icr := withBit x.icr k b } :=
  ⟨rfl, fun ⟨ha, hb, hcra, hcrb, hicr, himr⟩ => ⟨ha, hb, hcra, hcrb, withBit_and_eq_zero h hicr b, himr⟩, id⟩

theorem keeps_trigger {k : Nat} (h : bit (0x60 : Byte) k = false) : x.Keeps (x.trigger k) :=
  (keeps_withIcr x h true).trans (.ite ((Keeps.schedule rfl).trans (.schedule rfl)) (.refl _))

theorem keeps_writeImr (d : Byte) : x.Keeps (x.writeImr d) := by
  have himr (h : x.regular) : (if bit d 7 then x.imr ||| (d &&& 0x1f) else x.imr &&& ~~~ (d &&& 0x1f)) &&& 0xe0 = 0 := by
    obtain ⟨-, -, -, -, -, h⟩ := h
    split
    · exact or_and_eq_zero h (and_mask_and_eq_zero rfl d)
    · exact and_and_eq_zero h _
  refine Keeps.trans (y := { x with imr := if bit d 7 then x.imr ||| (d &&& 0x1f) else x.imr &&& ~~~ (d &&& 0x1f) })
    ⟨rfl, fun h => ?_, id⟩ (.ite ?_ (.ite ?_ (.refl _)))
  · have h' := himr h
    obtain ⟨ha, hb, hcra, hcrb, hicr, -⟩ := h
    exact ⟨ha, hb, hcra, hcrb, hicr, h'⟩
  · exact (((Keeps.cancel rfl).trans (.cancel rfl)).trans (.cancel rfl)).trans (.cancel rfl)
  · exact (Keeps.schedule rfl).trans (.schedule rfl)

theorem keeps_writeCra (d : Byte) : x.Keeps (x.writeCra d) where
  int := rfl
  regular := fun ⟨ha, hb, _, hcrb, hicr, himr⟩ => ⟨ha, hb, (bit_and d 0xef 4).trans (Bool.and_false _), hcrb, hicr, himr⟩
  pipeline := fun ⟨hd, hf⟩ => by
    refine ⟨withBit_and_eq_zero rfl (withBit_and_eq_zero rfl (withBit_and_eq_zero rfl ?_ _) _) _,
      withBit_and_eq_zero rfl (withBit_and_eq_zero rfl hf _) _⟩
    split
    · exact withBit_and_eq_zero rfl hd _
    · exact hd

theorem keeps_writeCrb (d : Byte) : x.Keeps (x.writeCrb d) where
  int := rfl
  regular := fun ⟨ha, hb, hcra, _, hicr, himr⟩ => ⟨ha, hb, hcra, (bit_and d 0xef 4).trans (Bool.and_false _), hicr, himr⟩
  pipeline := fun ⟨hd, hf⟩ => by
    refine ⟨withBit_and_eq_zero rfl (withBit_and_eq_zero rfl (withBit_and_eq_zero rfl ?_ _) _) _,
      withBit_and_eq_zero rfl (withBit_and_eq_zero rfl hf _) _⟩
    split
    · exact withBit_and_eq_zero rfl hd _
    · exact hd

theorem keeps_checkAlarm : x.Keeps x.checkAlarm := .ite (.schedule rfl) (.refl _)

theorem keeps_writeTod (f : TodTime → TodTime) (stop : Option Bool) : x.Keeps (x.writeTod f stop) :=
  (keeps_checkAlarm _).after ⟨rfl, id, id⟩

theorem keeps_serialInput : x.Keeps x.serialInput := .ite (.after (.schedule rfl) ⟨rfl, id, id⟩) ⟨rfl, id, id⟩

theorem keeps_setCnt (level : Bool) : x.Keeps (x.setCnt level) := by
  refine Keeps.trans (.ite ?_ (.refl _)) ⟨rfl, id, id⟩
  exact ((Keeps.ite (.schedule rfl) (.refl _)).trans (.ite (.schedule rfl) (.refl _))).trans (keeps_serialInput _)

theorem keeps_setFlag (level : Bool) : x.Keeps (x.setFlag level) :=
  (Keeps.ite (keeps_trigger x rfl) (.refl _)).trans ⟨rfl, id, id⟩

theorem keeps_setSp (level : Bool) : x.Keeps (x.setSp level) := .ite (.refl _) ⟨rfl, id, id⟩

theorem keeps_todPulse : x.Keeps x.todPulse := by
  unfold todPulse
  refine .ite (.ite ⟨rfl, id, id⟩ ?_) ⟨rfl, id, id⟩
  exact (keeps_checkAlarm _).after ⟨rfl, id, id⟩

/-- R530: a read of ICR also clears the interrupt flag. -/
theorem readIcr_regular (h : x.regular) : x.readIcr.regular := by
  obtain ⟨ha, hb, hcra, hcrb, hicr, himr⟩ := h
  exact ⟨ha, hb, hcra, hcrb, and_and_eq_zero hicr _, himr⟩

theorem readIcr_pipelineDefined (h : x.pipelineDefined) : x.readIcr.pipelineDefined :=
  ⟨withBit_and_eq_zero rfl (withBit_and_eq_zero rfl (withBit_and_eq_zero rfl (withBit_and_eq_zero rfl h.1 _) _) _) _, h.2⟩

end Cia

end Sys2Proof.Machine
end

section
/-!
PROOFS. What an operation of each port can do, said once: every operation of a CPU completes with one of a few effects, and a VIC access
that completes has one of two. The frames of the ports follow.
-/

namespace Sys2Proof

/-- A write of `new` over `old` leaves the bits that CR2 and MEMPTR lack 0. -/
structure VicRegs.Writes (old new : VicRegs) : Prop where
  cr2 : old.cr2 &&& 0xc0 = 0 → new.cr2 &&& 0xc0 = 0
  memptr : old.memptr &&& 0x01 = 0 → new.memptr &&& 0x01 = 0
  mxye : new.mxye = old.mxye

end Sys2Proof

namespace Sys2Proof.Machine

/-! ### The VIC's registers -/

/-- R601-R651: what the host's access to a VIC register does. -/
inductive HvEffect (s : State) : State → Prop where
  /-- A read answers, and may clear a collision register; an ignored write does nothing. -/
  | answered (b sp bg : Byte) :
      HvEffect s { s with hostData := b, vic := { s.vic with spriteSpriteCollision := sp, spriteBackgroundCollision := bg } }
  | register (r : VicRegs) (h : s.vic.reg.Writes r) : HvEffect s (s.writeVicReg r)
  | expansion (d : Byte) :
      HvEffect s { s.writeVicReg { s.vic.reg with mxye := d } with vic := {
        (s.writeVicReg { s.vic.reg with mxye := d }).vic with
          sprites := s.vic.sprites.mapIdx fun n p => { p with expansionFF := p.expansionFF || !(bit d n) } } }
  | compared (cr1 : Byte) (delayed : VicRegs) (line : BitVec 9) :
      HvEffect s { s with vic := { s.vic with
        reg := { s.vic.reg with cr1 := cr1 }, regDelayed := delayed, rasterIrqLine := line } }.rasterCompareOnWrite
  | interrupt (irr imr : Byte) (hirr : s.vic.irr &&& 0xf0 = 0 → irr &&& 0xf0 = 0) (himr : s.vic.imr &&& 0xf0 = 0 → imr &&& 0xf0 = 0) :
      HvEffect s { s with vic := { s.vic with irr := irr, imr := imr } }.updateVicIrq

/-! ### The CIAs -/

/-- R510-R577: what the host's access to a CIA does. -/
inductive HcEffect (s : State) (c : CiaId) : State → Prop where
  | answered (b : Byte) : HcEffect s c { s with hostData := b }
  /-- A read of the clock that freezes or releases its latch. -/
  | latched (b : Byte) (tod : Tod) : HcEffect s c { s.setCia c { s.cia c with tod := tod } with hostData := b }
  | acknowledged (b : Byte) : HcEffect s c { (s.setCia c (s.cia c).readIcr).ciaInterrupt c false with hostData := b }
  | written (x : Cia) (h : (s.cia c).Keeps x) : HcEffect s c (s.setCia c x)
  | portA (x : Cia) (h : (s.cia c).Keeps x) : HcEffect s c ((s.setCia c x).portAChanged c)

/-! ### The VIAs -/

/-- The change from `x` to `y` leaves the bit that IFR and IER lack 0. -/
structure Via.Keeps (x y : Via) : Prop where
  ifr : bit x.ifr 7 = false → bit y.ifr 7 = false
  ier : bit x.ier 7 = false → bit y.ier 7 = false

/-- R1004-R1043: what the drive CPU's access to a VIA does. -/
inductive DvEffect (s : State) (v : ViaId) : State → Prop where
  | answered (b : Byte) : DvEffect s v { s with driveData := b }
  | accessed (b : Byte) (x : Via) (h : (s.via v).Keeps x) : DvEffect s v { s.viaAccess v x with driveData := b }
  | shifting (x : Via) (h : (s.via v).Keeps x) : DvEffect s v ((s.viaAccess v x).raise .viaShiftModeUnsupported)

theorem bit_and_eq_false {w : Nat} {a : BitVec w} {k : Nat} (h : bit a k = false) (m : BitVec w) : bit (a &&& m) k = false := by
  rw [bit_and, h, Bool.false_and]

theorem bit_withBit_eq_false {w : Nat} {a : BitVec w} {k i : Nat} (h : bit a k = false) : bit (withBit a i false) k = false := by
  rw [bit_withBit, h, ite_self]

namespace Via

theorem Keeps.refl (x : Via) : x.Keeps x := ⟨id, id⟩

/-- The change from `y` comes after one from `x`. -/
theorem Keeps.after {x y z : Via} (h' : y.Keeps z) (h : x.Keeps y) : x.Keeps z := ⟨h'.ifr ∘ h.ifr, h'.ier ∘ h.ier⟩

theorem Keeps.ite {x y z : Via} {p : Prop} [Decidable p] (h : x.Keeps y) (h' : x.Keeps z) : x.Keeps (if p then y else z) := by
  split <;> assumption

variable (x : Via)

theorem keeps_clearIfr (k : Nat) : x.Keeps (x.clearIfr k) := ⟨bit_withBit_eq_false, id⟩

theorem keeps_portAAccess : x.Keeps x.portAAccess := by
  rw [portAAccess_eq]
  exact ⟨fun h => by dsimp only; split <;> exact bit_and_eq_false h _, id⟩

theorem keeps_portBWrite : x.Keeps x.portBWrite := by
  rw [portBWrite_eq]
  exact ⟨fun h => by dsimp only; split <;> exact bit_and_eq_false h _, id⟩

theorem keeps_portBRead : x.Keeps x.portBRead := by
  rw [portBRead, clearPortBFlags_eq]
  exact ⟨fun h => by dsimp only; split <;> exact bit_and_eq_false h _, id⟩

theorem keeps_writeIfr (d : Byte) : x.Keeps (x.writeIfr d) := ⟨fun h => bit_and_eq_false h _, id⟩

theorem keeps_writeIer (d : Byte) : x.Keeps (x.writeIer d) := by
  refine ⟨id, fun h => ?_⟩
  have hd : bit (d &&& 0x7f) 7 = false := (bit_and d 0x7f 7).trans (Bool.and_false _)
  unfold writeIer
  dsimp only
  split
  · rw [bit_or, h, hd]; rfl
  · exact bit_and_eq_false h _

end Via

/-! ### The VIC's own accesses -/

/-- R731-R734, R840-R843: what a VIC access that completes does: it counts and fills the buffers, or it serves a sprite, whose expansion
flip-flop stays. -/
inductive VaEffect (s : State) : State → Prop where
  | fetched (a : BitVec 14) (k : Nat) (refresh : Byte) (g : GAccess) (vc : BitVec 10) (vmli : BitVec 6) (vm : List Byte) (cl : List Nibble) :
      VaEffect s { s with vicAddr := a, draws := k, vic := { s.vic with
        refreshCounter := refresh, gAccess := g, vc := vc, vmli := vmli, videoMatrix := vm, colorLine := cl } }
  | sprite (a : BitVec 14) (k n : Nat) (p : Sprite) (h : p.expansionFF = (s.vic.sprites.get n).expansionFF) :
      VaEffect s { s with vicAddr := a, draws := k, vic := { s.vic with sprites := s.vic.sprites.set n p } }

section
variable (s : State) (a : BitVec 14) {n : Fin 8}

/-! ### Accesses in phi2 (R731, R742, R841, R843) -/

theorem phi2Byte_of_low (h : s.vic.baLine.lowFor3 = true) : s.phi2Byte a = (s.vicByte a, s.vicBus a) := if_pos h

theorem phi2Byte_of_not_low (h : s.vic.baLine.lowFor3 = false) : s.phi2Byte a = s.drawByte := by
  rw [State.phi2Byte, h]
  rfl

theorem exec_vaC_of_low (h : s.vic.baLine.lowFor3 = true) : exec .vaC s = .next { s with
    vicAddr := cAddress s.vic.reg s.vic.vc
    vic := { s.vic with
      videoMatrix := setEntry s.vic.videoMatrix s.vic.vmli (s.vicByte (cAddress s.vic.reg s.vic.vc))
      colorLine := setEntry s.vic.colorLine s.vic.vmli (s.colorNibble s.vic.vc) } } := by
  change execVaC s = _
  rw [execVaC, phi2Byte_of_low _ _ h, h]
  rfl

theorem exec_vaC_of_not_low (h : s.vic.baLine.lowFor3 = false) : exec .vaC s = .next { s with
    draws := s.draws + 2
    vic := { s.vic with
      videoMatrix := setEntry s.vic.videoMatrix s.vic.vmli (Config.freeByte s.draws)
      colorLine := setEntry s.vic.colorLine s.vic.vmli (Config.freeNibble (s.draws + 1)) } } := by
  change execVaC s = _
  rw [execVaC, phi2Byte_of_not_low _ _ h, h]
  rfl

theorem exec_vaS1 (h : s.phi2Sprite = some n) : exec .vaS1 s = .next
    ((s.phi2Byte (sAddress (s.vic.sprites.get n).ptr (s.vic.sprites.get n).mc)).2.mapSprite n fun p =>
      { p with
        ssr := { p.ssr with chunk1 := (s.phi2Byte (sAddress (s.vic.sprites.get n).ptr (s.vic.sprites.get n).mc)).1 }
        mc := p.mc + 1 }) := by
  change inSlot s.phi2Sprite _ = _
  rw [h, inSlot]

theorem exec_vaS3 (h : s.phi2Sprite = some n) : exec .vaS3 s = .next
    ((s.phi2Byte (sAddress (s.vic.sprites.get n).ptr (s.vic.sprites.get n).mc)).2.mapSprite n fun p =>
      { p with
        ssr := { p.ssr with chunk3 := (s.phi2Byte (sAddress (s.vic.sprites.get n).ptr (s.vic.sprites.get n).mc)).1 }
        mc := p.mc + 1 }) := by
  change inSlot s.phi2Sprite _ = _
  rw [h, inSlot]

/-- A sprite served with the byte of a phi2 access. -/
theorem phi2Byte_mapSprite (f : Sprite → Sprite) (n : Nat) : (s.phi2Byte a).2.mapSprite n f =
    { s with
      vicAddr := (s.phi2Byte a).2.vicAddr
      draws := (s.phi2Byte a).2.draws
      vic := { s.vic with sprites := s.vic.sprites.set n (f (s.vic.sprites.get n)) } } := by
  rw [phi2Byte_frame]
  rfl

end

/-! ### Every operation -/

/-- R302, R303: the chip of a word is the one its field was set to. -/
theorem ciaField_or_bits {k : Byte} (hk : k.getLsbD 4 = false) (c : CiaId) : ciaField (k ||| c.bits) = c := by
  unfold ciaField
  rw [BitVec.getLsbD_or, hk]
  cases c <;> rfl

theorem viaField_or_bits {k : Byte} (hk : k.getLsbD 4 = false) (v : ViaId) : viaField (k ||| v.bits) = v := by
  unfold viaField
  rw [BitVec.getLsbD_or, hk]
  cases v <;> rfl

/-- What an operation does: those of the CPUs' ports complete, and of the VIC's accesses this says what they do if they complete. -/
def Effect (i : Instr) (s : State) : Prop :=
  match portOf i with
  | .hv => ∃ t, exec i s = .next t ∧ HvEffect s t
  | .hc => ∃ c t, ciaField (encode i).word = c ∧ exec i s = .next t ∧ HcEffect s c t
  | .dv => ∃ v t, viaField (encode i).word = v ∧ exec i s = .next t ∧ DvEffect s v t
  | .va => ∀ t, exec i s = .next t → VaEffect s t

theorem exec_effect (i : Instr) (s : State) : Effect i s := by
  cases i
  case wVicCr1 d => exact ⟨_, rfl, .compared d _ _⟩
  case wVicRaster d => exact ⟨_, rfl, .compared _ _ _⟩
  case wVicMxye d => exact ⟨_, rfl, .expansion d⟩
  case wVicIrr d => exact ⟨_, rfl, .interrupt _ _ (fun h => and_and_eq_zero h _) id⟩
  case wVicImr d => exact ⟨_, rfl, .interrupt _ _ id fun _ => and_mask_and_eq_zero rfl d⟩
  case wVicCr2 d => exact ⟨_, rfl, .register _ ⟨fun _ => and_mask_and_eq_zero rfl d, id, rfl⟩⟩
  case wVicMemptr d => exact ⟨_, rfl, .register _ ⟨id, fun _ => and_mask_and_eq_zero rfl d, rfl⟩⟩
  case wVicMnX | wVicMnY | wVicMsbx | wVicMxe | wVicMxdp | wVicMxmc | wVicMxxe | wVicEc | wVicB0c | wVicB1c | wVicB2c | wVicB3c | wVicMm0
      | wVicMm1 | wVicM0c | wVicM1c | wVicM2c | wVicM3c | wVicM4c | wVicM5c | wVicM6c | wVicM7c =>
    exact ⟨_, rfl, .register _ ⟨id, id, rfl⟩⟩
  case rCiaPra c | rCiaPrb c | rCiaDdra c | rCiaDdrb c | rCiaTaLo c | rCiaTaHi c | rCiaTbLo c | rCiaTbHi c | rCiaTodSec c | rCiaTodMin c
      | rCiaSdr c | rCiaCra c | rCiaCrb c =>
    exact ⟨c, _, ciaField_or_bits rfl c, rfl, .answered _⟩
  case rCiaTod10ths c | rCiaTodHrs c => exact ⟨c, _, ciaField_or_bits rfl c, rfl, .latched _ _⟩
  case rCiaIcr c => exact ⟨c, _, ciaField_or_bits rfl c, rfl, .acknowledged _⟩
  case wCiaPra c d | wCiaDdra c d =>
    exact ⟨c, _, ciaField_or_bits rfl c, rfl, .portA _ ⟨rfl, fun ⟨_, hb, h⟩ => ⟨rfl, hb, h⟩, id⟩⟩
  case wCiaPrb c d | wCiaDdrb c d =>
    exact ⟨c, _, ciaField_or_bits rfl c, rfl, .written _ ⟨rfl, fun ⟨ha, _, h⟩ => ⟨ha, rfl, h⟩, id⟩⟩
  case wCiaTaLo c d | wCiaTbLo c d => exact ⟨c, _, ciaField_or_bits rfl c, rfl, .written _ ⟨rfl, id, id⟩⟩
  case wCiaTaHi c d | wCiaTbHi c d =>
    exact ⟨c, _, ciaField_or_bits rfl c, rfl, .written _ (.ite ⟨rfl, id, id⟩ ((Cia.Keeps.schedule rfl).after ⟨rfl, id, id⟩))⟩
  case wCiaSdr c d => exact ⟨c, _, ciaField_or_bits rfl c, rfl, .written _ (.ite ((Cia.Keeps.schedule rfl).after ⟨rfl, id, id⟩) ⟨rfl, id, id⟩)⟩
  case wCiaTod10ths c d | wCiaTodSec c d | wCiaTodMin c d | wCiaTodHrs c d =>
    exact ⟨c, _, ciaField_or_bits rfl c, rfl, .written _ (Cia.keeps_writeTod ..)⟩
  case wCiaIcr c d => exact ⟨c, _, ciaField_or_bits rfl c, rfl, .written _ (Cia.keeps_writeImr ..)⟩
  case wCiaCra c d => exact ⟨c, _, ciaField_or_bits rfl c, rfl, .written _ (Cia.keeps_writeCra ..)⟩
  case wCiaCrb c d => exact ⟨c, _, ciaField_or_bits rfl c, rfl, .written _ (Cia.keeps_writeCrb ..)⟩
  case rViaDdrb v | rViaDdra v | rViaT1ch v | rViaT1ll v | rViaT1lh v | rViaT2ch v | rViaAcr v | rViaPcr v | rViaIfr v | rViaIer v
      | rViaOraNh v =>
    exact ⟨v, _, viaField_or_bits rfl v, rfl, .answered _⟩
  case rViaOrb v => exact ⟨v, _, viaField_or_bits rfl v, rfl, .accessed _ _ (Via.keeps_portBRead _)⟩
  case rViaOra v => exact ⟨v, _, viaField_or_bits rfl v, rfl, .accessed _ _ (Via.keeps_portAAccess _)⟩
  case rViaT1cl v | rViaT2cl v | rViaSr v => exact ⟨v, _, viaField_or_bits rfl v, rfl, .accessed _ _ (Via.keeps_clearIfr ..)⟩
  case wViaDdrb v d | wViaDdra v d | wViaT1cl v d | wViaT1ll v d | wViaT2cl v d | wViaPcr v d | wViaOraNh v d =>
    exact ⟨v, _, viaField_or_bits rfl v, rfl, .accessed _ _ ⟨id, id⟩⟩
  case wViaT1ch v d | wViaT1lh v d | wViaT2ch v d | wViaSr v d =>
    exact ⟨v, _, viaField_or_bits rfl v, rfl, .accessed _ _ ⟨bit_withBit_eq_false, id⟩⟩
  case wViaOrb v d => exact ⟨v, _, viaField_or_bits rfl v, rfl, .accessed _ _ ((Via.keeps_portBWrite _).after ⟨id, id⟩)⟩
  case wViaOra v d => exact ⟨v, _, viaField_or_bits rfl v, rfl, .accessed _ _ ((Via.keeps_portAAccess _).after ⟨id, id⟩)⟩
  case wViaIfr v d => exact ⟨v, _, viaField_or_bits rfl v, rfl, .accessed _ _ (Via.keeps_writeIfr ..)⟩
  case wViaIer v d => exact ⟨v, _, viaField_or_bits rfl v, rfl, .accessed _ _ (Via.keeps_writeIer ..)⟩
  case wViaAcr v d =>
    refine ⟨v, _, viaField_or_bits rfl v, rfl, ?_⟩
    split
    · exact .accessed _ _ ⟨id, id⟩
    · exact .shifting _ ⟨id, id⟩
  case vaR => exact fun t h => next_injective h ▸ .fetched _ _ _ _ _ _ _ _
  case vaI => exact fun t h => next_injective h ▸ .fetched _ _ _ _ _ _ _ _
  case vaG =>
    intro t (h : execVaG s = .next t)
    unfold execVaG at h
    split at h
    · cases h
    · split at h
      · exact next_injective h ▸ .fetched _ _ _ _ _ _ _ _
      · exact next_injective h ▸ .fetched _ _ _ _ _ _ _ _
  case vaC =>
    intro t h
    cases hlow : s.vic.baLine.lowFor3
    · rw [exec_vaC_of_not_low _ hlow] at h
      exact next_injective h ▸ .fetched _ _ _ _ _ _ _ _
    · rw [exec_vaC_of_low _ hlow] at h
      exact next_injective h ▸ .fetched _ _ _ _ _ _ _ _
  case vaP | vaS2 =>
    intro t h
    obtain ⟨n, -, rfl⟩ := inSlot_next h
    exact .sprite _ _ _ _ rfl
  case vaS1 | vaS3 =>
    intro t h
    obtain ⟨n, -, rfl⟩ := inSlot_next h
    rw [phi2Byte_mapSprite]
    exact .sprite _ _ _ _ rfl
  all_goals exact ⟨_, rfl, .answered _ _ _⟩

end Sys2Proof.Machine
end

section
/-!
PROOFS. What a changed VIA does outside itself, as one record update for each VIA, and what an operation of each port can change at all.
-/

namespace Sys2Proof.Machine

/-! ### A VIA replaced -/

theorem viaAccess_via1 (s : State) (x : Via) : s.viaAccess .via1 x = { s with
    via1 := x
    lines := { s.lines with driveIrqVia1 := viaIrqCondition x }
    iec := { s.iec with dirtyDrive := s.iec.dirtyDrive || decide (viaPbOut x ≠ viaPbOut s.via1) } } := by
  rw [viaAccess_eq, updateVia_via1]
  rfl

/-- The phase the head is at moves nothing. -/
theorem stepTarget_same (h : Head) : stepTarget h h.stepperPhase = none := by
  have up : ∀ p : BitVec 2, p ≠ p + 1 := by decide
  have down : ∀ p : BitVec 2, p ≠ p - 1 := by decide
  rw [stepTarget, if_neg fun h => up _ h.1, if_neg fun h => down _ h.1]

/-- The bit offset has to be recovered before a level of port B moves the head off its half-track (R1160). -/
def State.OffsetLost (s : State) (pb : Byte) : Prop :=
  (stepTarget s.head (field pb 0 2)).isSome = true ∧ s.disk.trackLength s.head.halftrack ≤ s.head.bitoffset.toNat

theorem checkStep_of_lost {s : State} {pb : Byte} (h : s.OffsetLost pb) : s.checkStep pb = { s with
    head := { s.head with bitoffset := BitVec.ofNat 16 (if s.disk.trackLength s.head.halftrack = 0 then 0
      else s.head.bitoffset.toNat % s.disk.trackLength s.head.halftrack) }
    messages := putMessage s.messages (.diagnostic .invariantViolation)
    diagnosed := true } := by
  obtain ⟨hmove, hlost⟩ := h
  rw [State.checkStep, if_pos hmove, State.checkOffset, decide_eq_false (Nat.not_lt.mpr hlost), recover_outOfRange]
  rfl

theorem checkStep_of_not_lost {s : State} {pb : Byte} (h : ¬ s.OffsetLost pb) : s.checkStep pb = s := by
  unfold State.checkStep
  split
  · rename_i hmove
    exact checkOffset_inRange (Nat.lt_of_not_le fun hlost => h ⟨hmove, hlost⟩)
  · rfl

theorem headSees_eq (d : Disk) (h : Head) (pb : Byte) : headSees d h pb =
    { (if field pb 0 2 = h.stepperPhase then h else stepHead d h (field pb 0 2)) with zone := 3 - field pb 5 2 } := rfl

/-- A head sees a level of port B in its half-track, its bit offset, its phase and its zone. -/
theorem headSees_frame (d : Disk) (h : Head) (pb : Byte) : headSees d h pb =
    { h with
      halftrack := (headSees d h pb).halftrack
      bitoffset := (headSees d h pb).bitoffset
      stepperPhase := field pb 0 2
      zone := zoneOf pb } := by
  rw [headSees_eq]
  split
  · rename_i hp
    rw [hp]
    rfl
  · unfold stepHead
    split <;> rfl

/-- While port B's output stays, the head does. -/
theorem viaAccess_via2_quiet {s : State} {x : Via} (h : viaPbOut x = viaPbOut s.via2) : s.viaAccess .via2 x =
    { s with via2 := x, lines := { s.lines with driveIrqVia2 := viaIrqCondition x } } := by
  rw [viaAccess_eq, updateVia_via2, if_pos h]
  rfl

theorem viaAccess_via2_changed {s : State} {x : Via} (h : viaPbOut x ≠ viaPbOut s.via2) : s.viaAccess .via2 x =
    { s.checkStep (viaPbOut x) with
      via2 := x
      head := headSees (s.checkStep (viaPbOut x)).disk (s.checkStep (viaPbOut x)).head (viaPbOut x)
      lines := { (s.checkStep (viaPbOut x)).lines with driveIrqVia2 := viaIrqCondition x } } := by
  rw [viaAccess_eq, updateVia_via2, if_neg h]
  rfl

theorem viaAccess_via2_frame (s : State) (x : Via) : ∃ z p h b ms d, s.viaAccess .via2 x = { s with
    via2 := x
    lines := { s.lines with driveIrqVia2 := viaIrqCondition x }
    head := { s.head with zone := z, stepperPhase := p, halftrack := h, bitoffset := b }
    messages := ms
    diagnosed := d } := by
  by_cases hout : viaPbOut x = viaPbOut s.via2
  · exact ⟨_, _, _, _, _, _, viaAccess_via2_quiet hout⟩
  · obtain ⟨b, ms, d, hcheck⟩ := checkStep_frame s (viaPbOut x)
    rw [viaAccess_via2_changed hout, hcheck, headSees_frame]
    exact ⟨_, _, _, _, _, _, rfl⟩

/-! ### The raster compare of a write (R761) -/

/-- A write of the compare line matches the line anew, past the line's compare cycle. -/
def Vic.CompareFires (v : Vic) : Prop :=
  v.compareCyclePassed = true ∧ v.yCounter.toNat = v.rasterIrqLine.toNat ∧ v.rasterMatchLatched = false

theorem yCounter_beq_line (v : Vic) :
    (v.yCounter == v.rasterIrqLine.setWidth 32) = decide (v.yCounter.toNat = v.rasterIrqLine.toNat) := by
  rw [Bool.eq_iff_iff, beq_iff_eq, decide_eq_true_iff, ← BitVec.toNat_inj, BitVec.toNat_setWidth_of_le (by decide)]

theorem rasterCompareOnWrite_of_fires {s : State} (h : s.vic.CompareFires) : s.rasterCompareOnWrite = { s with
    vic := { s.vic with irr := s.vic.irr ||| 0x01, rasterMatchLatched := true }
    lines := { s.lines with irqVic := vicIrqCondition (s.vic.irr ||| 0x01) s.vic.imr } } := by
  obtain ⟨hpassed, hline, hlatched⟩ := h
  rw [State.rasterCompareOnWrite, if_pos hpassed, yCounter_beq_line, decide_eq_true hline, hlatched]
  rfl

theorem rasterCompareOnWrite_of_not_fires {s : State} (h : ¬ s.vic.CompareFires) : s.rasterCompareOnWrite = { s with
    vic := { s.vic with rasterMatchLatched :=
      if s.vic.compareCyclePassed then decide (s.vic.yCounter.toNat = s.vic.rasterIrqLine.toNat) else s.vic.rasterMatchLatched } } := by
  cases hpassed : s.vic.compareCyclePassed
  · exact rasterCompareOnWrite_early hpassed
  · have hfires : (decide (s.vic.yCounter.toNat = s.vic.rasterIrqLine.toNat) && !s.vic.rasterMatchLatched) = false := by
      rw [Bool.eq_false_iff]
      intro hm
      obtain ⟨hline, hlatched⟩ := (Bool.and_eq_true ..).mp hm
      exact h ⟨hpassed, of_decide_eq_true hline, (Bool.not_eq_true' _).mp hlatched⟩
    rw [State.rasterCompareOnWrite, if_pos hpassed, yCounter_beq_line]
    dsimp only
    rw [hfires]
    rfl

end Sys2Proof.Machine

namespace Sys2Proof.Proofs

open Sys2Proof Sys2Proof.Machine

/-- Settles O27: VIA1 as it stands; for VIA2 by whether port B's output changes and whether the offset is lost. -/
theorem viaAccessEffect : Obligations.ViaAccessEffect := by
  intro s x out irq phase moves length lost offset
  have hirq : irq = viaIrqCondition x := (viaIrqCondition_eq x).symm
  have hlost : lost ↔ out x ≠ out s.via2 ∧ s.OffsetLost (viaPbOut x) := by
    rw [State.OffsetLost, stepTarget_isSome]
    exact and_assoc
  refine ⟨?via1, ?via2⟩
  case via1 => rw [hirq]; exact viaAccess_via1 s x
  case via2 =>
    rw [hirq]
    by_cases hout : out x = out s.via2
    · have hkept : ¬ lost := fun h => (hlost.mp h).1 hout
      rw [viaAccess_via2_quiet hout, if_pos hout, if_neg hkept, decide_eq_false hkept, Bool.or_false]
    · rw [viaAccess_via2_changed hout, if_neg hout, headSees_eq]
      by_cases hl : s.OffsetLost (viaPbOut x)
      · have hgone : lost := hlost.mpr ⟨hout, hl⟩
        have hphase : phase ≠ s.head.stepperPhase := by
          intro (h : field (viaPbOut x) 0 2 = _)
          have := hl.1
          rw [h, stepTarget_same] at this
          cases this
        rw [checkStep_of_lost hl, if_pos hgone, decide_eq_true hgone, Bool.or_true, if_neg hphase, show offset = _ from if_pos hgone]
        dsimp only
        rw [if_neg (c := field (viaPbOut x) 0 2 = s.head.stepperPhase) hphase]
        rfl
      · have hkept : ¬ lost := fun h => hl (hlost.mp h).2
        rw [checkStep_of_not_lost hl, if_neg hkept, decide_eq_false hkept, Bool.or_false, show offset = _ from if_neg hkept]
        rfl

/-- Settles O40, port by port: each effect of the port changes what the port may change. -/
theorem portFrames : Obligations.PortFrames := by
  intro i s t h
  have he := exec_effect i s
  unfold Effect at he
  split at he <;> rename_i hp <;> rw [hp]
  case h_1 =>
    obtain ⟨u, hu, he⟩ := he
    obtain rfl := next_injective (hu.symm.trans h)
    cases he with
    | answered => rfl
    | register => rfl
    | expansion => rfl
    | compared cr1 delayed line =>
      by_cases hfires : Vic.CompareFires { s.vic with
          reg := { s.vic.reg with cr1 := cr1 }, regDelayed := delayed, rasterIrqLine := line }
      · rw [rasterCompareOnWrite_of_fires hfires]
      · rw [rasterCompareOnWrite_of_not_fires hfires]
    | interrupt => rfl
  case h_2 =>
    obtain ⟨c, u, hc, hu, he⟩ := he
    obtain rfl := next_injective (hu.symm.trans h)
    rw [hc]
    cases c
    · cases he with
      | answered => rfl
      | latched => rfl
      | acknowledged => generalize (s.cia .cia1).readIcr = x; rfl
      | written => rfl
      | portA => rfl
    · cases he with
      | answered => rfl
      | latched => rfl
      | acknowledged => generalize (s.cia .cia2).readIcr = x; rfl
      | written => rfl
      | portA => rfl
  case h_3 =>
    obtain ⟨v, u, hv, hu, he⟩ := he
    obtain rfl := next_injective (hu.symm.trans h)
    rw [hv]
    cases v
    · cases he with
      | answered b => rfl
      | accessed b x => dsimp only; rw [viaAccess_via1]
      | shifting x => dsimp only; rw [viaAccess_via1]; rfl
    · cases he with
      | answered b => rfl
      | accessed b x =>
        obtain ⟨z, p, hd, b, ms, d, hx⟩ := viaAccess_via2_frame s x
        dsimp only
        rw [hx]
      | shifting x =>
        obtain ⟨z, p, hd, b, ms, d, hx⟩ := viaAccess_via2_frame s x
        dsimp only
        rw [hx]
        rfl
  case h_4 => cases he t h <;> rfl

end Sys2Proof.Proofs
end

section
/-!
PROOFS. What the parts of a step leave alone, as one record update each; and the VIC's side: the bits its registers lack, the display
state of a bad line, the flip-flops of unexpanded sprites, and its interrupt line.
-/

namespace Sys2Proof.Machine

/-! ### What the drive's parts leave alone -/

theorem updateVia_frame (s : State) (v : ViaId) (x : Via) : ∃ a b h i ms d, s.updateVia v x = { s with
    via1 := a, via2 := b, head := h, iec := i, messages := ms, diagnosed := d } := by
  cases v
  · rw [updateVia_via1]
    exact ⟨_, _, _, _, _, _, rfl⟩
  · rw [updateVia_via2]
    split
    · exact ⟨_, _, _, _, _, _, rfl⟩
    · obtain ⟨b, ms, d, h⟩ := checkStep_frame s (viaPbOut x)
      dsimp only
      rw [h]
      exact ⟨_, _, _, _, _, _, rfl⟩

theorem viaAccess_frame (s : State) (v : ViaId) (x : Via) : ∃ a b l l' h i ms d, s.viaAccess v x = { s with
    via1 := a, via2 := b, head := h, iec := i, messages := ms, diagnosed := d
    lines := { s.lines with driveIrqVia1 := l, driveIrqVia2 := l' } } := by
  obtain ⟨a, b, h, i, ms, d, hx⟩ := updateVia_frame s v x
  rw [viaAccess_eq, hx]
  cases v <;> exact ⟨_, _, _, _, _, _, _, _, rfl⟩

theorem viaTick_frame (s : State) (v : ViaId) : ∃ a b l l' h i ms d, s.viaTick v = { s with
    via1 := a, via2 := b, head := h, iec := i, messages := ms, diagnosed := d
    lines := { s.lines with driveIrqVia1 := l, driveIrqVia2 := l' } } := by
  obtain ⟨y, ms, d, hc⟩ := checkVia_frame s v
  unfold State.viaTick
  rw [hc]
  dsimp only
  generalize Via.tick _ _ _ _ _ = x
  obtain ⟨a, b, h, i, ms, d, hx⟩ := updateVia_frame { s.setViaFields v y with messages := ms, diagnosed := d } v x
  rw [hx]
  cases v <;> exact ⟨_, _, _, _, _, _, _, _, rfl⟩

theorem takeBit_frame (s : State) (b : Bool) : ∃ x h so, s.takeBit b = { s with via2 := x, head := h, soPulses := so } := by
  unfold State.takeBit
  dsimp only
  generalize (s.readMode && _) = sync
  generalize (if sync = true then _ else s.head.byteReadyCounter + 1) = count
  split
  · obtain ⟨ira, wsr, line, so, h⟩ := byteReady_frame { s with head := { s.head with
      readShiftreg := s.head.readShiftreg <<< 1 ||| (bitOf b).setWidth 16, sync := sync, byteReadyCounter := count } }
    rw [h]
    exact ⟨_, _, _, rfl⟩
  · exact ⟨_, _, _, rfl⟩

theorem headBit_frame (s : State) : ∃ k h, s.headBit.2 = { s with disk := k, head := h } := by
  unfold State.headBit
  dsimp only
  split <;> exact ⟨_, _, rfl⟩

theorem executeBitReady_frame (s : State) : ∃ x h k ms d so, s.executeBitReady = { s with
    via2 := x, head := h, disk := k, messages := ms, diagnosed := d, soPulses := so } := by
  obtain ⟨b, ms, d, hc⟩ := checkOffset_frame s
  obtain ⟨k, h, hb⟩ := headBit_frame s.checkOffset
  obtain ⟨x, h', so, ht⟩ := takeBit_frame s.checkOffset.headBit.2 s.checkOffset.headBit.1
  unfold State.executeBitReady
  dsimp only
  rw [ht, hb, hc]
  exact ⟨_, _, _, _, _, _, rfl⟩

theorem diskAdvance_frame (s : State) : ∃ x h k ms d so, s.diskAdvance = { s with
    via2 := x, head := h, disk := k, messages := ms, diagnosed := d, soPulses := so } := by
  obtain ⟨b, ms, d, hc⟩ := checkHead_frame s
  unfold State.diskAdvance
  rw [hc]
  dsimp only
  split
  · split
    · obtain ⟨x, h, k, ms, d, so, he⟩ := executeBitReady_frame { s with
        head := { Head.changeTick { s.head with bitReadyTimer := b } with
          bitReadyTimer := (Head.changeTick { s.head with bitReadyTimer := b }).bitReadyTimer - 4 }
        messages := ms
        diagnosed := d }
      rw [he]
      exact ⟨_, _, _, _, _, _, rfl⟩
    · exact ⟨_, _, _, _, _, _, rfl⟩
  · exact ⟨_, _, _, _, _, _, rfl⟩

/-- A CIA tick drives the line of its chip alone. -/
theorem ciaTick_drive (s : State) (c : CiaId) : ∃ x b ms d, s.ciaTick c =
    { s.setCia c x with lines := s.lines.drive (.cia c) b, messages := ms, diagnosed := d } := by
  obtain ⟨y, ms, d, hc⟩ := checkCia_frame s c
  unfold State.ciaTick
  rw [hc]
  dsimp only
  split
  · cases c <;> exact ⟨_, true, _, _, rfl⟩
  · cases c
    · exact ⟨_, s.lines.irqCia1, _, _, rfl⟩
    · exact ⟨_, s.lines.nmiCia2, _, _, rfl⟩

/-! ### What the VIC keeps (R101, R725, R811) -/

/-- R101: the bits that the VIC's registers lack are 0. -/
def Vic.UnusedZero (v : Vic) : Prop := v.irr &&& 0xf0 = 0 ∧ v.imr &&& 0xf0 = 0 ∧ v.reg.cr2 &&& 0xc0 = 0 ∧ v.reg.memptr &&& 0x01 = 0

/-- R725. -/
def Vic.BadLineShown (v : Vic) : Prop := v.badLine = true → v.displayState = true

/-- R811. -/
def Vic.UnexpandedSet (v : Vic) : Prop := ∀ n, n < 8 → bit v.reg.mxye n = false → (v.sprites.get n).expansionFF = true

/-- The frame buffers are in canonical form (notes/assumptions/5.md). -/
def Vic.BuffersWf (v : Vic) : Prop := v.screenBuffer1.wf ∧ v.screenBuffer2.wf

/-- The change from `v` to `w` keeps the four. -/
structure Vic.Keeps (v w : Vic) : Prop where
  buffers : v.BuffersWf → w.BuffersWf
  unused : v.UnusedZero → w.UnusedZero
  shown : v.BadLineShown → w.BadLineShown
  expansion : v.UnexpandedSet → w.UnexpandedSet

namespace Vic.Keeps

variable {v w x : Vic}

theorem refl (v : Vic) : v.Keeps v := ⟨id, id, id, id⟩

theorem trans (h : v.Keeps w) (h' : w.Keeps x) : v.Keeps x :=
  ⟨h'.buffers ∘ h.buffers, h'.unused ∘ h.unused, h'.shown ∘ h.shown, h'.expansion ∘ h.expansion⟩

/-- The change from `w` comes after one from `v`. -/
theorem after (h' : w.Keeps x) (h : v.Keeps w) : v.Keeps x := h.trans h'

theorem ite {p : Prop} [Decidable p] (h : v.Keeps w) (h' : v.Keeps x) : v.Keeps (if p then w else x) := by
  split <;> assumption

/-- More interrupt causes, of those the register has. -/
theorem irr {b : Byte} (h : v.irr &&& 0xf0 = 0 → b &&& 0xf0 = 0) : v.Keeps { v with irr := b } :=
  ⟨id, fun ⟨hirr, hu⟩ => ⟨h hirr, hu⟩, id, id⟩

theorem register {r : VicRegs} {delayed : VicRegs} (h : v.reg.Writes r) : v.Keeps { v with reg := r, regDelayed := delayed } :=
  ⟨id, fun ⟨hirr, himr, hcr2, hmemptr⟩ => ⟨hirr, himr, h.cr2 hcr2, h.memptr hmemptr⟩, id, fun hx n hn hb => hx n hn (h.mxye ▸ hb)⟩

/-- The sprites change, with the flip-flops of those not expanded kept or set. -/
theorem sprites {p : Eight Sprite}
    (h : ∀ n, n < 8 → bit v.reg.mxye n = false → (v.sprites.get n).expansionFF = true → (p.get n).expansionFF = true) :
    v.Keeps { v with sprites := p } :=
  ⟨id, id, id, fun hx n hn hb => h n hn hb (hx n hn hb)⟩

end Vic.Keeps

/-- What the VIC's own work in a cycle leaves: the registers and the raster position. -/
def Vic.held (v : Vic) : VicRegs × Nat × BitVec 32 := (v.reg, v.rasterCycle, v.yCounter)

/-- The change from `v` to `w` is of the VIC's own work: it keeps the four, and leaves the registers and the raster position. -/
structure Vic.Works (v w : Vic) : Prop where
  keeps : v.Keeps w
  held : w.held = v.held

namespace Vic.Works

variable {v w x : Vic}

theorem refl (v : Vic) : v.Works v := ⟨.refl v, rfl⟩

theorem trans (h : v.Works w) (h' : w.Works x) : v.Works x := ⟨h.keeps.trans h'.keeps, h'.held.trans h.held⟩

/-- The change from `w` comes after one from `v`. -/
theorem after (h' : w.Works x) (h : v.Works w) : v.Works x := h.trans h'

theorem ite {p : Prop} [Decidable p] (h : v.Works w) (h' : v.Works x) : v.Works (if p then w else x) := by
  split <;> assumption

theorem mapSprites {f : Nat → Sprite → Sprite}
    (h : ∀ n p, bit v.reg.mxye n = false → p.expansionFF = true → (f n p).expansionFF = true) :
    v.Works { v with sprites := v.sprites.mapIdx f } :=
  ⟨.sprites fun n hn hb hp => by
    rw [Eight.get_mapIdx _ _ hn]
    exact h n _ hb hp, rfl⟩

end Vic.Works

namespace Vic

variable (v : Vic)

theorem keeps_clamped (cfg : Config) : v.Keeps (v.clamped cfg) where
  buffers := id
  unused := fun _ => ⟨and_mask_and_eq_zero rfl _, and_mask_and_eq_zero rfl _, and_mask_and_eq_zero rfl _, and_mask_and_eq_zero rfl _⟩
  shown := id
  expansion := fun h n hn hb => by
    change ((v.sprites.mapIdx fun _ p => Sprite.clamped p).get n).expansionFF = true
    rw [Eight.get_mapIdx _ _ hn]
    exact h n hn hb

theorem works_denLatch : v.Works v.denLatch := .ite ⟨⟨id, id, id, id⟩, rfl⟩ (.refl _)

/-- R722, R725: a bad line begins the display state. -/
theorem works_badLineStep : v.Works v.badLineStep :=
  ⟨⟨id, id, fun _ hb => (congrArg (v.displayState || ·) hb).trans (Bool.or_true _), id⟩, rfl⟩

/-- R760, on the VIC alone. -/
def compared (v : Vic) : Vic :=
  { v with
    irr := if v.yCounter == v.rasterIrqLine.setWidth 32 then v.irr ||| 0x01 else v.irr
    rasterMatchLatched := v.yCounter == v.rasterIrqLine.setWidth 32 }

theorem or_and_f0_eq_zero {b : Byte} (m : Byte) (hm : m &&& 0xf0 = 0) (p : Prop) [Decidable p] (h : b &&& 0xf0 = 0) :
    (if p then b ||| m else b) &&& 0xf0 = 0 := by
  split
  · exact or_and_eq_zero h hm
  · exact h

theorem works_compared : v.Works v.compared :=
  ⟨⟨id, fun ⟨hirr, hu⟩ => ⟨or_and_f0_eq_zero _ rfl _ hirr, hu⟩, id, id⟩, rfl⟩

/-- R741: the display state ends on no bad line. -/
theorem works_cycle58 : v.Works v.cycle58 := by
  unfold cycle58
  extract_lets v'
  have h : v.Works v' := .ite ⟨⟨id, id, fun h hb => (if_pos hb).trans (h hb), id⟩, rfl⟩ (.refl _)
  exact .ite (h.trans ⟨⟨id, id, id, id⟩, rfl⟩) h

theorem dmaStart_expansionFF {r : VicRegs} {n : Nat} (h : bit r.mxye n = false) (p : Sprite) (y : BitVec 32) :
    (p.dmaStart r y n).expansionFF = p.expansionFF := by
  unfold Sprite.dmaStart
  split
  · exact if_neg (by rw [h]; decide)
  · rfl

theorem expToggle_expansionFF {r : VicRegs} {n : Nat} (h : bit r.mxye n = false) (p : Sprite) : p.expToggle r n = p :=
  if_neg (by rw [h]; decide)

theorem mcbase1_expansionFF (p : Sprite) : p.mcbase1.expansionFF = p.expansionFF := by
  unfold Sprite.mcbase1
  split <;> rfl

theorem mcbase2_expansionFF (p : Sprite) : p.mcbase2.expansionFF = p.expansionFF := by
  simp only [Sprite.mcbase2]
  split_ifs <;> rfl

/-- A stage of the sprite sequencer, under the registers `r`. -/
structure SpriteStage (r : VicRegs) (v w : Vic) : Prop where
  reg : v.reg = r → w.reg = r
  works : v.reg = r → v.Works w

namespace SpriteStage

variable {r : VicRegs} {v w x : Vic}

theorem trans (h : SpriteStage r v w) (h' : SpriteStage r w x) : SpriteStage r v x :=
  ⟨h'.reg ∘ h.reg, fun hv => (h.works hv).trans (h'.works (h.reg hv))⟩

/-- A stage that a cycle may have. -/
theorem ite {p : Prop} [Decidable p] (h : SpriteStage r v w) : SpriteStage r v (if p then w else v) := by
  split
  · exact h
  · exact ⟨id, fun _ => .refl v⟩

/-- Each sprite for itself; `k` is the new value of `clearedBitsInD017`. -/
theorem map {f : Nat → Sprite → Sprite} {k : Byte} (h : ∀ n p, bit r.mxye n = false → (f n p).expansionFF = p.expansionFF) :
    SpriteStage r v { v with clearedBitsInD017 := k, sprites := v.sprites.mapIdx f } :=
  ⟨id, fun hr => (Works.mapSprites fun n p hb hp => (h n p (hr ▸ hb)).trans hp).trans ⟨⟨id, id, id, id⟩, rfl⟩⟩

end SpriteStage

/-- R810, R811: only an expanded sprite's flip-flop is cleared. -/
theorem works_spriteActions (row : CycleRow) : v.Works (v.spriteActions row) := by
  unfold spriteActions
  extract_lets r y v1 v2 v3 v4 v5
  have h1 : SpriteStage r v v1 := .ite (.map fun _ _ _ => rfl)
  have h2 : SpriteStage r v1 v2 := .ite (.map fun _ p _ => mcbase1_expansionFF p)
  have h3 : SpriteStage r v2 v3 := .ite (.map fun _ p _ => mcbase2_expansionFF p)
  have h4 : SpriteStage r v3 v4 := .ite (.map fun _ p h => congrArg _ (expToggle_expansionFF h p))
  have h5 : SpriteStage r v4 v5 := .ite (.map fun _ p h => dmaStart_expansionFF h p y)
  have h : SpriteStage r v v5 := (((h1.trans h2).trans h3).trans h4).trans h5
  refine SpriteStage.works (r := r) ?_ rfl
  exact h.trans (.ite (.map fun _ _ _ => rfl))

/-! ### The pixels -/

theorem matchX_expansionFF (p : Sprite) (r : VicRegs) (n : Nat) (x : BitVec 16) : (p.matchX r n x).expansionFF = p.expansionFF := by
  unfold Sprite.matchX
  split <;> rfl

theorem shift_expansionFF (p : Sprite) (r : VicRegs) (n : Nat) : (p.shift r n).1.expansionFF = p.expansionFF := by
  unfold Sprite.shift
  split <;> rfl

theorem step_expansionFF (p : Sprite) (r : VicRegs) (x : BitVec 16) (n : Nat) : (p.step r x n).1.expansionFF = p.expansionFF :=
  (shift_expansionFF ..).trans (matchX_expansionFF ..)

/-- R930: the causes of a collision are bits 1 and 2. -/
theorem works_collide (px : Eight (BitVec 2)) (fg : Bool) : v.Works (v.collide px fg) := by
  unfold collide
  have cause (v : Vic) (m : Byte) (hm : m &&& 0xf0 = 0) (p : Prop) [Decidable p] (sp bg : Byte) :
      v.Works { v with irr := if p then v.irr ||| m else v.irr, spriteSpriteCollision := sp, spriteBackgroundCollision := bg } :=
    ⟨⟨id, fun ⟨hirr, hu⟩ => ⟨or_and_f0_eq_zero _ hm _ hirr, hu⟩, id, id⟩, rfl⟩
  exact Works.after (.ite (cause _ 0x02 rfl _ _ _) (.refl _)) (.ite (cause _ 0x04 rfl _ _ _) (.refl _))

theorem works_putPixel (x : BitVec 16) (colour : Nibble) : v.Works (v.putPixel x colour) := by
  unfold putPixel
  split
  · split
    · exact ⟨⟨fun h => ⟨Memory.wf_write h.1 _ _, h.2⟩, id, id, id⟩, rfl⟩
    · exact ⟨⟨fun h => ⟨h.1, Memory.wf_write h.2 _ _⟩, id, id, id⟩, rfl⟩
  · exact .refl v

theorem works_produce (r : VicRegs) (p : Nat) (x : BitVec 16) (px : Eight (BitVec 2)) (gColour : Nibble) (fg borderNow : Bool) :
    v.Works (v.produce r p x px gColour fg borderNow) :=
  (works_putPixel _ _ _).after ((works_collide v px fg).trans ⟨⟨id, id, id, id⟩, rfl⟩)

theorem works_pixelStep (r : VicRegs) (row : CycleRow) (word : BitVec 32) (p : Nat) (a : Vic × Bool) :
    a.1.Works (pixelStep r row word p a).1 := by
  have stepped (g : GfxShift) (ff : BorderFF) (x : BitVec 16) :
      a.1.Works { a.1 with sr := g, sprites := (a.1.sprites.mapIdx fun n s => s.step r x n).mapIdx fun _ q => q.1, ff := ff } :=
    (Works.mapSprites (f := fun n s => (s.step r x n).1) fun n p _ hp => (step_expansionFF p r x n).trans hp).trans ⟨⟨id, id, id, id⟩, rfl⟩
  exact .ite ((works_produce ..).after (stepped _ _ _)) (stepped _ _ _)

theorem works_pixelCycle (row : CycleRow) (gBefore : Bool) : v.Works (v.pixelCycle row gBefore) := by
  unfold pixelCycle
  extract_lets r word g v' a0 a1 a2 a3 a4 a5 a6
  have h0 : v.Works a0.1 := (works_pixelStep ..).after ⟨⟨id, id, id, id⟩, rfl⟩
  have h3 : a0.1.Works a3.1 := (works_pixelStep ..).after ((works_pixelStep ..).after (works_pixelStep ..))
  have h6 : a3.1.Works a6.1 := (works_pixelStep ..).after ((works_pixelStep ..).after (works_pixelStep ..))
  exact (works_pixelStep ..).after (h6.after (h3.after h0))

end Vic

end Sys2Proof.Machine
end

section
/-!
PROOFS. The VIC's invariants over a step (O44 but for the VIAs' bits, and the VIC's line of O43): every part of a step keeps them.
-/

namespace Sys2Proof.Eight

variable {α : Type}

theorem set_mod (v : Eight α) (n : Nat) (x : α) : v.set (n % 8) x = v.set n x := by
  unfold Eight.set
  rw [Nat.mod_mod]

theorem get_mod (v : Eight α) (n : Nat) : v.get (n % 8) = v.get n := by
  unfold Eight.get
  rw [Nat.mod_mod]

end Sys2Proof.Eight

namespace Sys2Proof.Machine

variable {s t u : State}

/-- R660: the VIC pulls its line exactly while its condition is true. -/
def State.VicLine (s : State) : Prop := s.lines.irqVic = vicIrqCondition s.vic.irr s.vic.imr

/-- The change from `s` to `t` keeps what the VIC keeps, and its line. -/
structure State.VicKeeps (s t : State) : Prop where
  vic : s.vic.Keeps t.vic
  line : s.VicLine → t.VicLine

namespace State.VicKeeps

theorem refl (s : State) : s.VicKeeps s := ⟨.refl _, id⟩

theorem trans (h : s.VicKeeps t) (h' : t.VicKeeps u) : s.VicKeeps u := ⟨h.vic.trans h'.vic, h'.line ∘ h.line⟩

/-- The change from `t` comes after one from `s`. -/
theorem after (h' : t.VicKeeps u) (h : s.VicKeeps t) : s.VicKeeps u := h.trans h'

/-- After `updateVicIrq` the line follows from the causes, whatever it was. -/
theorem updated (h : s.vic.Keeps t.vic) : s.VicKeeps t.updateVicIrq := ⟨h, fun _ => rfl⟩

end State.VicKeeps

theorem rasterCompare_vic (s : State) : s.rasterCompare.vic = s.vic.compared := by
  unfold State.rasterCompare Vic.compared
  generalize (s.vic.yCounter == _) = m
  cases m <;> rfl

theorem vicIrqCondition_clamped (irr imr : Byte) : vicIrqCondition (irr &&& 0x0f) (imr &&& 0x0f) = vicIrqCondition irr imr := by
  have h : irr &&& 0x0f &&& (imr &&& 0x0f) &&& 0x0f = irr &&& imr &&& 0x0f := by
    refine eq_of_bit fun k _ => ?_
    simp only [bit_and]
    cases bit (0x0f : Byte) k <;> simp
  rw [vicIrqCondition, h, vicIrqCondition]

theorem vicKeeps_checkVic (s : State) : s.VicKeeps s.checkVic :=
  recover_keeps (P := fun t => s.VicKeeps t) (.refl s) fun _ => ⟨Vic.keeps_clamped _ _, fun h => h.trans (vicIrqCondition_clamped ..).symm⟩

theorem vicKeeps_checkRasterCycle (s : State) : s.VicKeeps s.checkRasterCycle :=
  recover_keeps (P := fun t => s.VicKeeps t) (.refl s) fun _ => ⟨⟨id, id, id, id⟩, id⟩

/-- R700 steps 1 to 7: the check of the ranges, then the VIC's own work, then the line. -/
theorem vicBeforeAccess_works (s : State) (row : CycleRow) : s.checkVic.vic.Works (s.vicBeforeAccess row).vic := by
  unfold State.vicBeforeAccess
  extract_lets s1 c y _ v1 v2 v3 s2 s3 v4 v5 v6
  have h1 : s1.vic.Works v1 := ⟨⟨id, id, id, id⟩, rfl⟩
  have h2 : s1.vic.Works v2 := .ite (h1.trans ⟨⟨id, id, id, id⟩, rfl⟩) h1
  have h3 : s1.vic.Works v3 := (Vic.works_badLineStep v2.denLatch).after ((Vic.works_denLatch v2).after h2)
  have hs3 : s3.vic = if (c = 1 ∧ y ≠ 0) ∨ (c = 2 ∧ y = 0) then v3.compared else v3 := by
    rw [← rasterCompare_vic s2]
    exact apply_ite ..
  have h4 : s1.vic.Works s3.vic := hs3 ▸ .ite (h3.trans (Vic.works_compared _)) h3
  have h5 : s1.vic.Works v4 := .ite (h4.trans ⟨⟨id, id, id, id⟩, rfl⟩) h4
  have h6 : s1.vic.Works v5 := .ite (h5.trans (Vic.works_cycle58 _)) h5
  refine (h6.trans ?_).trans (Vic.works_pixelCycle ..)
  exact (Vic.works_spriteActions ..).trans ⟨⟨id, id, id, id⟩, rfl⟩

theorem vicKeeps_vicBeforeAccess (s : State) (row : CycleRow) : s.VicKeeps (s.vicBeforeAccess row) :=
  ⟨(vicKeeps_checkVic s).vic.trans (vicBeforeAccess_works s row).keeps, fun _ => rfl⟩

theorem rasterCompare_irq (s : State) : ∃ v b, s.rasterCompare = { s with vic := v, lines := { s.lines with irqVic := b } } := by
  unfold State.rasterCompare
  generalize (s.vic.yCounter == _) = m
  cases m
  · exact ⟨_, s.lines.irqVic, rfl⟩
  · exact ⟨_, _, rfl⟩

/-- The VIC's work before its accesses reaches the VIC, its own line and the diagnostics. -/
theorem vicBeforeAccess_irq (s : State) (row : CycleRow) : ∃ v b ms d, s.vicBeforeAccess row =
    { s with vic := v, lines := { s.lines with irqVic := b }, messages := ms, diagnosed := d } := by
  obtain ⟨w, ms, d, hw⟩ := checkVic_frame s
  unfold State.vicBeforeAccess
  rw [hw]
  dsimp only
  generalize Vic.badLineStep _ = v
  obtain ⟨v', b, h⟩ := rasterCompare_irq { s with vic := v, messages := ms, diagnosed := d }
  split
  · rw [h]
    exact ⟨_, _, _, _, rfl⟩
  · exact ⟨_, _, _, _, rfl⟩

theorem vicKeeps_vicAfterAccess (s : State) : s.VicKeeps s.vicAfterAccess := by
  unfold State.vicAfterAccess
  split <;> exact ⟨⟨id, id, id, id⟩, id⟩

theorem vicKeeps_rasterCompareOnWrite (s : State) : s.VicKeeps s.rasterCompareOnWrite := by
  by_cases h : s.vic.CompareFires
  · rw [rasterCompareOnWrite_of_fires h]
    exact ⟨⟨id, fun ⟨hirr, hu⟩ => ⟨or_and_eq_zero hirr rfl, hu⟩, id, id⟩, fun _ => rfl⟩
  · rw [rasterCompareOnWrite_of_not_fires h]
    exact ⟨⟨id, id, id, id⟩, id⟩

/-- R811: a write of MxYE sets the flip-flops of the sprites it does not expand. -/
theorem vicKeeps_expansion (s : State) (d : Byte) : s.VicKeeps { s.writeVicReg { s.vic.reg with mxye := d } with vic := {
    (s.writeVicReg { s.vic.reg with mxye := d }).vic with
      sprites := s.vic.sprites.mapIdx fun n p => { p with expansionFF := p.expansionFF || !(bit d n) } } } := by
  refine ⟨⟨id, id, id, fun h n hn (hb : bit d n = false) => ?_⟩, id⟩
  dsimp only
  rw [Eight.get_mapIdx _ _ hn]
  simp [hb]

theorem vicKeeps_of_hvEffect (h : HvEffect s t) : s.VicKeeps t := by
  cases h with
  | answered b sp bg => exact ⟨⟨id, id, id, id⟩, id⟩
  | register r h => exact ⟨.register h, id⟩
  | expansion d => exact vicKeeps_expansion s d
  | compared cr1 delayed line => exact (vicKeeps_rasterCompareOnWrite _).after ⟨⟨id, id, id, id⟩, id⟩
  | interrupt irr imr hirr himr => exact .updated ⟨id, fun ⟨h, h', hu⟩ => ⟨hirr h, himr h', hu⟩, id, id⟩

theorem vicKeeps_of_vaEffect (h : VaEffect s t) : s.VicKeeps t := by
  cases h with
  | fetched => exact ⟨⟨id, id, id, id⟩, id⟩
  | sprite a k n p h =>
    refine ⟨.sprites fun m hm _ hp => ?_, id⟩
    rw [← Eight.set_mod]
    by_cases hmn : m = n % 8
    · rw [hmn, Eight.get_set_same, h, ← Eight.get_mod, ← hmn, hp]
    · rw [Eight.get_set_other _ _ (Nat.mod_lt _ (by decide)) hm hmn, hp]

/-- The parts of a step that leave the VIC and its line. -/
theorem State.VicKeeps.of_eq (hv : t.vic = s.vic) (hl : t.lines.irqVic = s.lines.irqVic) : s.VicKeeps t := by
  refine ⟨hv ▸ .refl _, fun h => ?_⟩
  unfold State.VicLine at *
  rw [hl, hv, h]

theorem vicKeeps_operation {i : Instr} (h : exec i s = .next t) : s.VicKeeps t := by
  have he := exec_effect i s
  unfold Effect at he
  split at he
  case h_1 =>
    obtain ⟨u, hu, he⟩ := he
    exact next_injective (hu.symm.trans h) ▸ vicKeeps_of_hvEffect he
  case h_2 =>
    have hf := Proofs.portFrames i s t h
    rename_i hp
    rw [hp] at hf
    dsimp only at hf
    split at hf <;> exact .of_eq (congrArg State.vic hf :) (congrArg (·.lines.irqVic) hf :)
  case h_3 =>
    obtain ⟨v, u, -, hu, he⟩ := he
    obtain rfl := next_injective (hu.symm.trans h)
    cases he with
    | answered b => exact .of_eq rfl rfl
    | accessed b x =>
      obtain ⟨_, _, _, _, _, _, _, _, hx⟩ := viaAccess_frame s v x
      rw [hx]
      exact .of_eq rfl rfl
    | shifting x =>
      obtain ⟨_, _, _, _, _, _, _, _, hx⟩ := viaAccess_frame s v x
      rw [hx]
      exact .of_eq rfl rfl
  case h_4 => exact vicKeeps_of_vaEffect (he t h)

theorem vicKeeps_ciaTick (s : State) (c : CiaId) : s.VicKeeps (s.ciaTick c) := by
  obtain ⟨_, _, _, _, h⟩ := ciaTick_drive s c
  rw [h]
  cases c <;> exact .of_eq rfl rfl

/-- R404: the frame boundary changes of the VIC its working buffer alone. -/
theorem vicKeeps_endCycle (s : State) : s.VicKeeps s.endCycle := by
  unfold State.endCycle State.advanceRasterPosition
  split
  · exact ⟨⟨id, id, id, id⟩, id⟩
  · split <;> exact ⟨⟨id, id, id, id⟩, id⟩

/-- A predicate that goes through what the VIC keeps, every part of a cycle keeps. -/
theorem vic_cycleKeeps {P : State → Prop} (h : ∀ s t : State, s.VicKeeps t → P s → P t) : CycleKeeps P where
  ranged s := h _ _ (vicKeeps_checkRasterCycle s)
  before s row _ := h _ _ (vicKeeps_vicBeforeAccess s row)
  operation i s t hs hi := h _ _ (vicKeeps_operation hi) hs
  after s := h _ _ (vicKeeps_vicAfterAccess s)
  cia s c := h _ _ (vicKeeps_ciaTick s c)
  iec s := h _ _ (by rw [iecStep_frame]; exact .of_eq rfl rfl)
  queues s _ _ := h _ _ (.of_eq rfl rfl)
  ram s _ _ := h _ _ (.of_eq rfl rfl)
  color s _ _ := h _ _ (.of_eq rfl rfl)
  returned s _ _ := h _ _ (.of_eq rfl rfl)
  raised s _ := h _ _ (.of_eq rfl rfl)
  disk s := h _ _ (by obtain ⟨_, _, _, _, _, _, hf⟩ := diskAdvance_frame s; rw [hf]; exact .of_eq rfl rfl)
  via s v := h _ _ (by obtain ⟨_, _, _, _, _, _, _, _, hf⟩ := viaTick_frame s v; rw [hf]; exact .of_eq rfl rfl)
  time s _ := h _ _ (.of_eq rfl rfl)
  ended s := h _ _ (vicKeeps_endCycle s)

end Sys2Proof.Machine
end

section
/-!
PROOFS. A step as its parts, for a predicate that each part of a cycle keeps: the parameters and the waiting host operations stay in a
cycle; and what the host operations do to the VIC.
-/

namespace Sys2Proof.Machine

variable {s t : State}

/-! ### What no part of a cycle changes: the parameters, and the host operations that wait -/

theorem exec_fixed {i : Instr} (h : exec i s = .next t) : t.cfg = s.cfg ∧ t.hostOps = s.hostOps := by
  have hf := Proofs.portFrames i s t h
  split at hf
  · exact ⟨(congrArg State.cfg hf :), (congrArg State.hostOps hf :)⟩
  · exact ⟨(congrArg State.cfg hf :), (congrArg State.hostOps hf :)⟩
  · split at hf <;> exact ⟨(congrArg State.cfg hf :), (congrArg State.hostOps hf :)⟩
  · split at hf <;> exact ⟨(congrArg State.cfg hf :), (congrArg State.hostOps hf :)⟩

theorem endCycle_fixed (s : State) : s.endCycle.cfg = s.cfg ∧ s.endCycle.hostOps = s.hostOps := by
  unfold State.endCycle State.advanceRasterPosition
  split
  · exact ⟨rfl, rfl⟩
  · split <;> exact ⟨rfl, rfl⟩

theorem fixed_cycleKeeps (R : Config → List (Nat × HostOp) → Prop) : CycleKeeps fun s => R s.cfg s.hostOps where
  ranged s hs := by obtain ⟨_, _, _, hf⟩ := checkRasterCycle_frame s; rw [hf]; exact hs
  before s row _ hs := by obtain ⟨_, _, _, _, hf⟩ := vicBeforeAccess_frame s row; rw [hf]; exact hs
  operation i s t hs hi := by rw [(exec_fixed hi).1, (exec_fixed hi).2]; exact hs
  after s hs := hs
  cia s c hs := by obtain ⟨_, _, _, _, hf⟩ := ciaTick_drive s c; rw [hf]; cases c <;> exact hs
  iec s hs := by rw [iecStep_frame]; exact hs
  queues s _ _ hs := hs
  ram s _ _ hs := hs
  color s _ _ hs := hs
  returned s _ _ hs := hs
  raised s _ hs := hs
  disk s hs := by obtain ⟨_, _, _, _, _, _, hf⟩ := diskAdvance_frame s; rw [hf]; exact hs
  via s v hs := by obtain ⟨_, _, _, _, _, _, _, _, hf⟩ := viaTick_frame s v; rw [hf]; exact hs
  time s _ hs := hs
  ended s hs := by rw [(endCycle_fixed s).1, (endCycle_fixed s).2]; exact hs

/-! ### Steps -/

theorem CycleKeeps.and {P R : State → Prop} (k : CycleKeeps P) (l : CycleKeeps R) : CycleKeeps fun s => P s ∧ R s where
  ranged s h := ⟨k.ranged s h.1, l.ranged s h.2⟩
  before s row hr h := ⟨k.before s row hr h.1, l.before s row hr h.2⟩
  operation i s t h hi := ⟨k.operation i s t h.1 hi, l.operation i s t h.2 hi⟩
  after s h := ⟨k.after s h.1, l.after s h.2⟩
  cia s c h := ⟨k.cia s c h.1, l.cia s c h.2⟩
  iec s h := ⟨k.iec s h.1, l.iec s h.2⟩
  queues s hq dq h := ⟨k.queues s hq dq h.1, l.queues s hq dq h.2⟩
  ram s a d h := ⟨k.ram s a d h.1, l.ram s a d h.2⟩
  color s a d h := ⟨k.color s a d h.1, l.color s a d h.2⟩
  returned s b n h := ⟨k.returned s b n h.1, l.returned s b n h.2⟩
  raised s d h := ⟨k.raised s d h.1, l.raised s d h.2⟩
  disk s h := ⟨k.disk s h.1, l.disk s h.2⟩
  via s v h := ⟨k.via s v h.1, l.via s v h.2⟩
  time s x h := ⟨k.time s x h.1, l.time s x h.2⟩
  ended s h := ⟨k.ended s h.1, l.ended s h.2⟩

/-- What each part of a cycle and every waiting operation of the kind Q keep, a step keeps, and the operations still waiting are of it. -/
theorem step_keeps_waiting {P : State → Prop} {Q : HostOp → Prop} (k : CycleKeeps P)
    (hop : ∀ op s t, Q op → P s → applyHostOp op s = .next t → P t) (hwait : ∀ s ops, P s → P { s with hostOps := ops })
    (hs : P s) (hq : ∀ x ∈ s.hostOps, Q x.2) (h : step s = .next t) : P t ∧ ∀ x ∈ t.hostOps, Q x.2 :=
  step_keeps hop hwait (k.and (fixed_cycleKeeps fun _ ops => ∀ x ∈ ops, Q x.2)) hs hq h

/-- What each part of a cycle and every host operation keep, a step keeps. -/
theorem step_keeps_always {P : State → Prop} (k : CycleKeeps P) (hop : ∀ op s t, P s → applyHostOp op s = .next t → P t)
    (hwait : ∀ s ops, P s → P { s with hostOps := ops }) (hs : P s) (h : step s = .next t) : P t :=
  (step_keeps_waiting (Q := fun _ => True) k (fun op s t _ => hop op s t) hwait hs (fun _ _ => trivial) h).1

/-! ### The host operations, and the VIC -/

/-- R1140: inserting a disk changes the disk, the head and the diagnostics. -/
theorem insertDisk_frame {image : DiskImage} (h : s.insertDisk image = .next t) : ∃ k sig n i ms d, t = { s with
    disk := k
    head := { s.head with changeSignal := sig, changeTimer := n, bitoffset := i }
    messages := ms
    diagnosed := d } := by
  unfold State.insertDisk at h
  split at h
  · cases h
  · rename_i tracks wp _
    obtain rfl := next_injective h
    dsimp only
    split
    · obtain ⟨b, ms, d, hf⟩ := checkOffset_frame { s.changeDisk with disk := ⟨true, tracks, wp⟩ }
      rw [hf]
      exact ⟨_, _, _, _, _, _, rfl⟩
    · exact ⟨_, _, _, _, _, _, rfl⟩

/-- R440, R1403: the parameters that a configuration sets, and the answer. -/
theorem configure_frame (s : State) (r : ConfigRequest) : ∃ c ok, s.configure r = { s with cfg := c, configureOk := ok } := by
  unfold State.configure
  split <;> exact ⟨_, _, rfl⟩

/-- R1402: the drive reset's VIAs are those of the reset values, but for the draws and the host's pins. -/
theorem resetVia_eq (s : State) (v : ViaId) : s.resetVia v = { s.setViaFields v { Via.reset with
    t1Counter := Config.freeWord s.draws
    t1Latch := Config.freeWord (s.draws + 1)
    t2Counter := Config.freeWord (s.draws + 2)
    t2LatchLo := Config.freeByte (s.draws + 3)
    extPA := (s.via v).extPA
    extPB := (s.via v).extPB
    extCA2 := (s.via v).extCA2
    extCB1 := (s.via v).extCB1
    extCB2 := (s.via v).extCB2 } with draws := s.draws + 4 } := by
  cases v <;> rfl

/-- What of a VIA's reset values its line and the head see. -/
structure Via.IsReset (x : Via) : Prop where
  ifr : x.ifr = 0
  ier : x.ier = 0
  pb : viaPbOut x = 0xff

theorem resetVia_frame (s : State) (v : ViaId) : ∃ x n, s.resetVia v = { s.setViaFields v x with draws := n } ∧ x.IsReset :=
  ⟨_, _, resetVia_eq s v, rfl, rfl, (by decide : viaPbOut Via.reset = 0xff)⟩

theorem resetDrive_frame (s : State) : ∃ x y n, x.IsReset ∧ y.IsReset ∧ s.resetDrive = { s with
    via1 := x
    via2 := y
    draws := n
    head := { Head.reset with changeSignal := s.head.changeSignal, changeTimer := s.head.changeTimer }
    lines := { s.lines with driveIrqVia1 := false, driveIrqVia2 := false }
    driveTimeAcc := 0
    iec := s.iec.resetDirty false true } := by
  obtain ⟨x, n, hx, hxr⟩ := resetVia_frame s .via1
  obtain ⟨y, m, hy, hyr⟩ := resetVia_frame (s.resetVia .via1) .via2
  refine ⟨x, y, m, hxr, hyr, ?_⟩
  unfold State.resetDrive
  rw [hy, hx]
  rfl

theorem vicKeeps_setCia (s : State) (c : CiaId) (x : Cia) : s.VicKeeps (s.setCia c x) := by
  cases c <;> exact .of_eq rfl rfl

theorem vicKeeps_setViaFields (s : State) (v : ViaId) (x : Via) : s.VicKeeps (s.setViaFields v x) := by
  cases v <;> exact .of_eq rfl rfl

theorem vicKeeps_setLightPen (s : State) (level : Bool) : s.VicKeeps (s.setLightPen level) := by
  unfold State.setLightPen
  extract_lets v t
  have ht : s.VicKeeps t := by
    refine iteInduction (motive := s.VicKeeps) (fun _ => ?_) (fun _ => .refl s)
    exact .updated ⟨id, fun ⟨hirr, hu⟩ => ⟨or_and_eq_zero hirr rfl, hu⟩, id, id⟩
  exact ht.trans ⟨⟨id, id, id, id⟩, id⟩

theorem unusedZero_reset : Vic.reset.UnusedZero := ⟨rfl, rfl, rfl, rfl⟩

/-- R1401: the reset VIC has what the VIC keeps, and its line is released. -/
theorem vicKeeps_of_reset {cfg : Config} {m m' : Memory} (hm : s.vic.BuffersWf → m.wf ∧ m'.wf) (hv : t.vic = { s.vic.hostReset cfg with screenBuffer1 := m, screenBuffer2 := m' })
    (hl : t.lines.irqVic = false) : s.VicKeeps t := by
  refine ⟨?_, fun _ => ?_⟩
  · rw [hv]
    refine ⟨hm, fun _ => unusedZero_reset, fun _ h => (nomatch (h : false = true)), fun _ => ?_⟩
    exact forall_lt_eight ⟨fun _ => rfl, fun _ => rfl, fun _ => rfl, fun _ => rfl, fun _ => rfl, fun _ => rfl, fun _ => rfl, fun _ => rfl⟩
  · unfold State.VicLine
    rw [hv, hl]
    exact (show vicIrqCondition 0 0 = false from rfl).symm

/-- A property of the state an outcome names. -/
theorem of_next {P : State → Prop} {u : State} (hu : P u) (h : (Host.Outcome.next u : Host.Outcome State Fault Refusal) = .next t) : P t :=
  next_injective h ▸ hu

theorem vicKeeps_applyHostOp (op : HostOp) (h : applyHostOp op s = .next t) : s.VicKeeps t := by
  cases op with
  | configure r =>
    obtain ⟨_, _, hf⟩ := configure_frame s r
    exact of_next (hf ▸ .of_eq rfl rfl) h
  | powerOn => exact of_next (vicKeeps_of_reset (fun _ => ⟨Memory.wf_nil, Memory.wf_nil⟩) rfl rfl) h
  | resetHost => exact of_next (vicKeeps_of_reset id rfl rfl) h
  | insertDisk image =>
    obtain ⟨_, _, _, _, _, _, rfl⟩ := insertDisk_frame h
    exact .of_eq rfl rfl
  | setCiaPins c port levels => cases port <;> exact of_next (vicKeeps_setCia s c _) h
  | setViaPins v port levels => cases port <;> exact of_next (vicKeeps_setViaFields s v _) h
  | setCnt c level => exact of_next (vicKeeps_setCia s c _) h
  | setFlag c level => exact of_next (vicKeeps_setCia s c _) h
  | setSp c level => exact of_next (vicKeeps_setCia s c _) h
  | setLightPen level => exact of_next (P := s.VicKeeps) (vicKeeps_setLightPen s level) h
  | assertUltimax => cases h
  | resetDrive =>
    obtain ⟨_, _, _, -, -, hf⟩ := resetDrive_frame s
    exact of_next (hf ▸ .of_eq rfl rfl) h
  | ejectDisk | setControlPins | pullNmiRestore | releaseNmiRestore | suspend | resume | readFrame | warpMode | saveSnapshot =>
    obtain rfl := next_injective h
    exact .of_eq rfl rfl

/-- A predicate that goes through what the VIC keeps, a step keeps. -/
theorem vic_step {P : State → Prop} (hP : ∀ s t : State, s.VicKeeps t → P s → P t) (hs : P s) (h : step s = .next t) : P t :=
  step_keeps_always (vic_cycleKeeps hP) (fun op s _ hs ho => hP s _ (vicKeeps_applyHostOp op ho) hs)
    (fun s _ hs => hP s _ (.of_eq rfl rfl) hs) hs h

end Sys2Proof.Machine
end

section
/-!
PROOFS. The CIAs' invariants over a step (O42, and the CIAs' lines of O43): the tick, and every part of a step.
-/

namespace Sys2Proof.Machine

/-! ### The tick (R520) -/

namespace Cia

variable (x : Cia)

/-- R520 step 3: stopping clears bit 0 of CRA and the count stages. -/
theorem keeps_stopA : x.Keeps x.stopA := by
  refine Keeps.ite (Keeps.trans (y := { x with cra := withBit x.cra 0 false }) ⟨rfl, ?_, id⟩ ?_) (.refl x)
  · intro ⟨ha, hb, hcra, hcrb, hicr, himr⟩
    exact ⟨ha, hb, bit_withBit_eq_false hcra, hcrb, hicr, himr⟩
  · exact (((Keeps.cancel rfl).trans (.cancel rfl)).trans (.cancel rfl)).trans (.setFeed rfl false)

theorem keeps_stopB : x.Keeps x.stopB := by
  refine Keeps.ite (Keeps.trans (y := { x with crb := withBit x.crb 0 false }) ⟨rfl, ?_, id⟩ ?_) (.refl x)
  · intro ⟨ha, hb, hcra, hcrb, hicr, himr⟩
    exact ⟨ha, hb, hcra, bit_withBit_eq_false hcrb, hicr, himr⟩
  · exact (((Keeps.cancel rfl).trans (.cancel rfl)).trans (.cancel rfl)).trans (.setFeed rfl false)

theorem keeps_cascade : x.Keeps x.cascade := .ite (.schedule rfl) (.refl x)

theorem keeps_pb6Event : x.Keeps x.pb6Event :=
  .ite (.ite ⟨rfl, id, id⟩ ((Keeps.schedule rfl).after ⟨rfl, id, id⟩)) (.refl x)

theorem keeps_pb7Event : x.Keeps x.pb7Event :=
  .ite (.ite ⟨rfl, id, id⟩ ((Keeps.schedule rfl).after ⟨rfl, id, id⟩)) (.refl x)

theorem keeps_serialUnderflow : x.Keeps x.serialUnderflow :=
  .ite (.ite ⟨rfl, id, id⟩ (.ite ((Keeps.schedule rfl).after ⟨rfl, id, id⟩) ⟨rfl, id, id⟩)) (.refl x)

theorem keeps_underflowA : x.Keeps x.underflowA :=
  (keeps_serialUnderflow _).after ((keeps_pb6Event _).after ((Keeps.schedule rfl).after ((keeps_cascade _).after (keeps_stopA x))))

theorem keeps_underflowB : x.Keeps x.underflowB := (keeps_pb7Event _).after ((Keeps.schedule rfl).after (keeps_stopB x))

theorem keeps_reload : x.Keeps x.reload := by
  unfold reload
  extract_lets y
  have h : x.Keeps y := .ite ((Keeps.cancel rfl).after ⟨rfl, id, id⟩) (.refl x)
  exact .ite ((Keeps.cancel rfl).after (h.trans ⟨rfl, id, id⟩)) h

theorem keeps_pulseEnds : x.Keeps x.pulseEnds := ⟨rfl, id, id⟩

theorem keeps_serialTick : x.Keeps x.serialTick := by
  unfold serialTick
  extract_lets y
  have h : x.Keeps y := .ite ⟨rfl, id, id⟩ (.refl x)
  exact .ite (h.trans ⟨rfl, id, id⟩) h

theorem keeps_clearIr : x.Keeps x.clearIr := .ite (keeps_withIcr x rfl false) (.refl x)

theorem keeps_sources (underA underB : Bool) : x.Keeps (x.sources underA underB) := by
  unfold sources
  extract_lets a b c
  have ha : x.Keeps a := .ite (keeps_trigger x rfl) (.refl x)
  have hb : x.Keeps b := .ite (ha.trans (keeps_trigger a rfl)) ha
  have hc : x.Keeps c := .ite (hb.trans (keeps_trigger b rfl)) hb
  exact .ite (hc.trans (keeps_trigger c rfl)) hc

/-- R520 step 10: the pipeline stays, and INT rises with `Interrupt1`. -/
theorem delayedInterrupt_eq : x.delayedInterrupt =
    { x with
      icr := if bit x.delay dSetIcr1 then withBit x.icr 7 true else x.icr
      int := bit x.delay dInterrupt1 || x.int } := by
  unfold delayedInterrupt
  cases h : bit x.delay dSetIcr1 <;> cases h' : bit x.delay dInterrupt1 <;> simp [h']

/-- R520 steps 1 to 9. -/
theorem tickBeforeShift_eq : ∃ y, x.Keeps y ∧ x.tickBeforeShift = y.delayedInterrupt := by
  unfold tickBeforeShift
  extract_lets a uA uB b c
  have hb : x.Keeps b := .ite ((keeps_underflowA a).after ⟨rfl, id, id⟩) ⟨rfl, id, id⟩
  have hc : x.Keeps c := .ite (hb.trans (keeps_underflowB b)) hb
  refine ⟨_, ?_, rfl⟩
  exact (keeps_sources ..).after ((keeps_clearIr _).after ((keeps_serialTick _).after ((keeps_pulseEnds _).after ((keeps_reload c).after hc))))

theorem tick_int : x.tick.int = (bit x.tickBeforeShift.delay dInterrupt1 || x.int) := by
  obtain ⟨y, hy, h⟩ := tickBeforeShift_eq x
  change x.tickBeforeShift.int = _
  rw [h, delayedInterrupt_eq, ← hy.int]

theorem tick_regular (hx : x.regular) : x.tick.regular := by
  obtain ⟨y, hy, h⟩ := tickBeforeShift_eq x
  have hy := hy.regular hx
  change x.tickBeforeShift.regular
  rw [h, delayedInterrupt_eq]
  obtain ⟨ha, hb, hcra, hcrb, hicr, himr⟩ := hy
  refine ⟨ha, hb, hcra, hcrb, ?_, himr⟩
  dsimp only
  split
  · exact withBit_and_eq_zero rfl hicr true
  · exact hicr

/-- R502: the shift gives defined stages alone. -/
theorem shiftDelay_defined (delay : BitVec 64) {feed : BitVec 64} (h : feed &&& ~~~stickyStages = 0) :
    shiftDelay delay feed &&& ~~~definedStages = 0 :=
  or_and_eq_zero (and_mask_and_eq_zero rfl _) (and_eq_zero_of_subset rfl h)

theorem tick_pipelineDefined (hx : x.pipelineDefined) : x.tick.pipelineDefined := by
  obtain ⟨y, hy, h⟩ := tickBeforeShift_eq x
  have hfeed : x.tickBeforeShift.feed &&& ~~~stickyStages = 0 := by
    rw [h, delayedInterrupt_eq]
    exact (hy.pipeline hx).2
  exact ⟨shiftDelay_defined _ hfeed, hfeed⟩

theorem keeps_clamped : x.Keeps x.clamped where
  int := rfl
  regular := fun ⟨ha, hb, hcra, hcrb, hicr, himr⟩ =>
    ⟨ha, hb, bit_and_eq_false hcra _, bit_and_eq_false hcrb _, and_and_eq_zero hicr _, and_and_eq_zero himr _⟩
  pipeline := fun ⟨hd, hf⟩ => ⟨and_and_eq_zero hd _, and_and_eq_zero hf _⟩

theorem regular_reset : reset.regular := by
  unfold regular
  decide

theorem pipelineDefined_reset : reset.pipelineDefined := ⟨rfl, rfl⟩

end Cia

/-! ### Every part of a step -/

variable {s t u : State}

/-- R1300: each CIA pulls its line exactly while INT is set. -/
def State.CiaLine (s : State) : Prop := s.lines.irqCia1 = s.cia1.int ∧ s.lines.nmiCia2 = s.cia2.int

/-- The change from `s` to `t` keeps what the CIAs keep, and their lines. -/
structure State.CiaKeeps (s t : State) : Prop where
  regular : s.CiaInv → t.CiaInv
  pipeline : s.PipelineInv → t.PipelineInv
  line : s.CiaLine → t.CiaLine

namespace State.CiaKeeps

theorem refl (s : State) : s.CiaKeeps s := ⟨id, id, id⟩

theorem trans (h : s.CiaKeeps t) (h' : t.CiaKeeps u) : s.CiaKeeps u :=
  ⟨h'.regular ∘ h.regular, h'.pipeline ∘ h.pipeline, h'.line ∘ h.line⟩

theorem after (h' : t.CiaKeeps u) (h : s.CiaKeeps t) : s.CiaKeeps u := h.trans h'

/-- One CIA changed, as a CIA keeps it. -/
theorem setCia {c : CiaId} {x : Cia} (h : (s.cia c).Keeps x) : s.CiaKeeps (s.setCia c x) := by
  cases c
  · exact ⟨fun hx => ⟨h.regular hx.1, hx.2⟩, fun hx => ⟨h.pipeline hx.1, hx.2⟩, fun hx => ⟨hx.1.trans h.int.symm, hx.2⟩⟩
  · exact ⟨fun hx => ⟨hx.1, h.regular hx.2⟩, fun hx => ⟨hx.1, h.pipeline hx.2⟩, fun hx => ⟨hx.1, hx.2.trans h.int.symm⟩⟩

/-- One CIA changed, with its line driven by its INT. -/
theorem drive {c : CiaId} {x : Cia} (hr : (s.cia c).regular → x.regular) (hp : (s.cia c).pipelineDefined → x.pipelineDefined) :
    s.CiaKeeps ((s.setCia c x).ciaInterrupt c x.int) := by
  cases c
  · exact ⟨fun hx => ⟨hr hx.1, hx.2⟩, fun hx => ⟨hp hx.1, hx.2⟩, fun hx => ⟨rfl, hx.2⟩⟩
  · exact ⟨fun hx => ⟨hx.1, hr hx.2⟩, fun hx => ⟨hx.1, hp hx.2⟩, fun hx => ⟨hx.1, rfl⟩⟩

end State.CiaKeeps

theorem ciaKeeps_checkCia (s : State) (c : CiaId) : s.CiaKeeps (s.checkCia c) :=
  recover_keeps (P := s.CiaKeeps) (.refl s) fun _ => (State.CiaKeeps.setCia (Cia.keeps_clamped _)).trans ⟨id, id, id⟩

/-- R520: the line is pulled in the tick in which INT rises. -/
theorem ciaKeeps_ciaTick (s : State) (c : CiaId) : s.CiaKeeps (s.ciaTick c) := by
  refine .after ?_ (ciaKeeps_checkCia s c)
  unfold State.ciaTick
  generalize s.checkCia c = s
  have hint := Cia.tick_int (s.cia c)
  dsimp only
  cases hfires : bit (s.cia c).tickBeforeShift.delay dInterrupt1
  · rw [hfires, Bool.false_or] at hint
    exact .setCia ⟨hint, Cia.tick_regular _, Cia.tick_pipelineDefined _⟩
  · rw [hfires, Bool.true_or] at hint
    have h := State.CiaKeeps.drive (Cia.tick_regular (s.cia c)) (Cia.tick_pipelineDefined (s.cia c))
    rw [hint] at h
    exact h

/-- The parts of a step that leave the CIAs and their lines. -/
theorem State.CiaKeeps.of_eq (h1 : t.cia1 = s.cia1) (h2 : t.cia2 = s.cia2) (hl1 : t.lines.irqCia1 = s.lines.irqCia1)
    (hl2 : t.lines.nmiCia2 = s.lines.nmiCia2) : s.CiaKeeps t := by
  refine ⟨fun h => ?_, fun h => ?_, fun h => ?_⟩
  · unfold State.CiaInv at *
    rwa [h1, h2]
  · unfold State.PipelineInv at *
    rwa [h1, h2]
  · unfold State.CiaLine at *
    rwa [h1, h2, hl1, hl2]

theorem ciaKeeps_of_hcEffect {c : CiaId} (h : HcEffect s c t) : s.CiaKeeps t := by
  cases h with
  | answered b => exact .of_eq rfl rfl rfl rfl
  | latched b tod => 
    have h := State.CiaKeeps.setCia (s := s) (c := c) (x := { s.cia c with tod := tod }) ⟨rfl, id, id⟩
    exact h.trans (.of_eq rfl rfl rfl rfl)
  | acknowledged b =>
    have h := State.CiaKeeps.drive (s := s) (Cia.readIcr_regular (s.cia c)) (Cia.readIcr_pipelineDefined (s.cia c))
    exact h.trans (.of_eq rfl rfl rfl rfl)
  | written x h => exact .setCia h
  | portA x h =>
    have hx := State.CiaKeeps.setCia h
    cases c
    · exact hx
    · exact hx.trans (.of_eq rfl rfl rfl rfl)

theorem ciaKeeps_operation {i : Instr} (h : exec i s = .next t) : s.CiaKeeps t := by
  have he := exec_effect i s
  unfold Effect at he
  split at he
  case h_1 =>
    have hf := Proofs.portFrames i s t h
    rename_i hp
    rw [hp] at hf
    exact .of_eq (congrArg State.cia1 hf :) (congrArg State.cia2 hf :) (congrArg (·.lines.irqCia1) hf :) (congrArg (·.lines.nmiCia2) hf :)
  case h_2 =>
    obtain ⟨c, u, -, hu, he⟩ := he
    exact next_injective (hu.symm.trans h) ▸ ciaKeeps_of_hcEffect he
  case h_3 =>
    obtain ⟨v, u, -, hu, he⟩ := he
    obtain rfl := next_injective (hu.symm.trans h)
    cases he with
    | answered b => exact .of_eq rfl rfl rfl rfl
    | accessed b x =>
      obtain ⟨_, _, _, _, _, _, _, _, hx⟩ := viaAccess_frame s v x
      rw [hx]
      exact .of_eq rfl rfl rfl rfl
    | shifting x =>
      obtain ⟨_, _, _, _, _, _, _, _, hx⟩ := viaAccess_frame s v x
      rw [hx]
      exact .of_eq rfl rfl rfl rfl
  case h_4 => cases he t h <;> exact .of_eq rfl rfl rfl rfl

/-- R404: both clocks are pulsed at the frame boundary. -/
theorem ciaKeeps_endCycle (s : State) : s.CiaKeeps s.endCycle := by
  have h : (s.CiaKeeps { s with cia1 := s.cia1.todPulse, cia2 := s.cia2.todPulse }) :=
    (State.CiaKeeps.setCia (c := .cia1) (Cia.keeps_todPulse s.cia1)).trans (.setCia (c := .cia2) (Cia.keeps_todPulse s.cia2))
  unfold State.endCycle State.advanceRasterPosition
  split
  · exact .of_eq rfl rfl rfl rfl
  · split
    · exact .of_eq rfl rfl rfl rfl
    · exact h.trans (.of_eq rfl rfl rfl rfl)

/-- A predicate that goes through what the CIAs keep, every part of a cycle keeps. -/
theorem cia_cycleKeeps {P : State → Prop} (h : ∀ s t : State, s.CiaKeeps t → P s → P t) : CycleKeeps P where
  ranged s := h _ _ (by obtain ⟨_, _, _, hf⟩ := checkRasterCycle_frame s; rw [hf]; exact .of_eq rfl rfl rfl rfl)
  before s row _ := h _ _ (by obtain ⟨_, _, _, _, hf⟩ := vicBeforeAccess_irq s row; rw [hf]; exact .of_eq rfl rfl rfl rfl)
  operation i s t hs hi := h _ _ (ciaKeeps_operation hi) hs
  after s := h _ _ (.of_eq rfl rfl rfl rfl)
  cia s c := h _ _ (ciaKeeps_ciaTick s c)
  iec s := h _ _ (by rw [iecStep_frame]; exact .of_eq rfl rfl rfl rfl)
  queues s _ _ := h _ _ (.of_eq rfl rfl rfl rfl)
  ram s _ _ := h _ _ (.of_eq rfl rfl rfl rfl)
  color s _ _ := h _ _ (.of_eq rfl rfl rfl rfl)
  returned s _ _ := h _ _ (.of_eq rfl rfl rfl rfl)
  raised s _ := h _ _ (.of_eq rfl rfl rfl rfl)
  disk s := h _ _ (by obtain ⟨_, _, _, _, _, _, hf⟩ := diskAdvance_frame s; rw [hf]; exact .of_eq rfl rfl rfl rfl)
  via s v := h _ _ (by obtain ⟨_, _, _, _, _, _, _, _, hf⟩ := viaTick_frame s v; rw [hf]; exact .of_eq rfl rfl rfl rfl)
  time s _ := h _ _ (.of_eq rfl rfl rfl rfl)
  ended s := h _ _ (ciaKeeps_endCycle s)

/-! ### The host operations -/

/-- R1401: both CIAs reset, with their lines released. -/
theorem ciaKeeps_of_reset (h1 : t.cia1 = Cia.reset) (h2 : t.cia2 = Cia.reset) (hl1 : t.lines.irqCia1 = false)
    (hl2 : t.lines.nmiCia2 = false) : s.CiaKeeps t := by
  refine ⟨fun _ => ?_, fun _ => ?_, fun _ => ?_⟩
  · unfold State.CiaInv
    rw [h1, h2]
    exact ⟨Cia.regular_reset, Cia.regular_reset⟩
  · unfold State.PipelineInv
    rw [h1, h2]
    exact ⟨Cia.pipelineDefined_reset, Cia.pipelineDefined_reset⟩
  · unfold State.CiaLine
    rw [h1, h2, hl1, hl2]
    exact ⟨rfl, rfl⟩

theorem ciaKeeps_setViaFields (s : State) (v : ViaId) (x : Via) : s.CiaKeeps (s.setViaFields v x) := by
  cases v <;> exact .of_eq rfl rfl rfl rfl

/-- R662: the light pen reaches the VIC and its line. -/
theorem setLightPen_frame (s : State) (level : Bool) : ∃ v b, s.setLightPen level = { s with vic := v, lines := { s.lines with irqVic := b } } := by
  unfold State.setLightPen
  dsimp only
  split
  · exact ⟨_, _, rfl⟩
  · exact ⟨_, s.lines.irqVic, rfl⟩

theorem ciaKeeps_applyHostOp (op : HostOp) (h : applyHostOp op s = .next t) : s.CiaKeeps t := by
  cases op with
  | configure r =>
    obtain ⟨_, _, hf⟩ := configure_frame s r
    exact of_next (hf ▸ .of_eq rfl rfl rfl rfl) h
  | powerOn => exact of_next (ciaKeeps_of_reset rfl rfl rfl rfl) h
  | resetHost => exact of_next (ciaKeeps_of_reset rfl rfl rfl rfl) h
  | resetDrive =>
    obtain ⟨_, _, _, -, -, hf⟩ := resetDrive_frame s
    exact of_next (hf ▸ .of_eq rfl rfl rfl rfl) h
  | insertDisk image =>
    obtain ⟨_, _, _, _, _, _, rfl⟩ := insertDisk_frame h
    exact .of_eq rfl rfl rfl rfl
  | setCiaPins c port levels => 
    cases port
    · exact of_next (State.CiaKeeps.setCia (x := { s.cia c with extPA := levels }) ⟨rfl, id, id⟩) h
    · exact of_next (State.CiaKeeps.setCia (x := { s.cia c with extPB := levels }) ⟨rfl, id, id⟩) h
  | setViaPins v port levels => cases port <;> exact of_next (ciaKeeps_setViaFields s v _) h
  | setCnt c level => exact of_next (State.CiaKeeps.setCia (Cia.keeps_setCnt _ level)) h
  | setFlag c level => exact of_next (State.CiaKeeps.setCia (Cia.keeps_setFlag _ level)) h
  | setSp c level => exact of_next (State.CiaKeeps.setCia (Cia.keeps_setSp _ level)) h
  | setLightPen level =>
    obtain ⟨_, _, hf⟩ := setLightPen_frame s level
    exact of_next (hf ▸ .of_eq rfl rfl rfl rfl) h
  | assertUltimax => cases h
  | ejectDisk | setControlPins | pullNmiRestore | releaseNmiRestore | suspend | resume | readFrame | warpMode | saveSnapshot =>
    obtain rfl := next_injective h
    exact .of_eq rfl rfl rfl rfl

/-- A predicate that goes through what the CIAs keep, a step keeps. -/
theorem cia_step {P : State → Prop} (hP : ∀ s t : State, s.CiaKeeps t → P s → P t) (hs : P s) (h : step s = .next t) : P t :=
  step_keeps_always (cia_cycleKeeps hP) (fun op s _ hs ho => hP s _ (ciaKeeps_applyHostOp op ho) hs)
    (fun s _ hs => hP s _ (.of_eq rfl rfl rfl rfl) hs) hs h

end Sys2Proof.Machine

namespace Sys2Proof.Proofs

open Sys2Proof Sys2Proof.Machine

/-- Settles O42: every part of a step keeps both, the tick by its stages. -/
theorem ciaInvariant : Obligations.CiaInvariant := fun _ _ =>
  ⟨cia_step fun _ _ h => h.regular, cia_step fun _ _ h => h.pipeline⟩

end Sys2Proof.Proofs
end

section
/-!
PROOFS. The drive's invariants over a step: the bits the VIAs lack, their lines, and the head (O46's first, O44's and O43's last parts).
-/

namespace Sys2Proof.Machine

/-! ### The tick of a VIA (R1020) -/

theorem viaIrqCondition_clamped (x : Via) : viaIrqCondition x.clamped = viaIrqCondition x := by
  have h : x.ifr &&& 0x7f &&& (x.ier &&& 0x7f) &&& 0x7f = x.ifr &&& x.ier &&& 0x7f := by
    refine eq_of_bit fun k _ => ?_
    simp only [bit_and]
    cases bit (0x7f : Byte) k <;> simp
  exact congrArg (fun b : Byte => b != 0) h

namespace Via

variable (x : Via)

/-- A flag raised, of those the register has. -/
theorem Keeps.flag {x y : Via} {k : Nat} (h : k ≠ 7) (hifr : y.ifr = withBit x.ifr k true) (hier : y.ier = x.ier) : x.Keeps y := by
  refine ⟨fun hx => ?_, fun hx => hier ▸ hx⟩
  rw [hifr, bit_withBit, if_neg fun h' => h h'.1.symm, hx]

theorem keeps_clamped : x.Keeps x.clamped := ⟨fun h => bit_and_eq_false h _, fun h => bit_and_eq_false h _⟩

theorem keeps_t1Tick : x.Keeps x.t1Tick :=
  .ite ⟨id, id⟩ (.ite (.ite (.flag (k := ifrT1) (by decide) rfl rfl) (.ite (.flag (k := ifrT1) (by decide) rfl rfl) ⟨id, id⟩)) ⟨id, id⟩)

theorem keeps_t2Expires (at_ : BitVec 16) : x.Keeps (x.t2Expires at_) := .ite (.flag (k := ifrT2) (by decide) rfl rfl) (.refl x)

/-- Another part of the chip changes. -/
theorem Keeps.beside {x y z : Via} (h : x.Keeps y) (hifr : z.ifr = y.ifr) (hier : z.ier = y.ier) : x.Keeps z :=
  ⟨fun hx => hifr ▸ h.ifr hx, fun hx => hier ▸ h.ier hx⟩

theorem keeps_t2Tick (pbIn : Byte) : x.Keeps (x.t2Tick pbIn) := by
  unfold t2Tick
  extract_lets pb6 y
  have h : x.Keeps y := by
    refine .ite ?_ (.ite ?_ (.refl x))
    · exact (keeps_t2Expires _ _).after ⟨id, id⟩
    · exact (keeps_t2Expires _ _).after ⟨id, id⟩
  exact h.beside rfl rfl

theorem keeps_sampleCa1 (level : Bool) (paIn : Byte) : x.Keeps (x.sampleCa1 level paIn) := by
  unfold sampleCa1
  extract_lets a b y
  have ha : x.Keeps a := .flag (k := ifrCA1) (by decide) rfl rfl
  have hb : x.Keeps b := .ite (ha.beside rfl rfl) ha
  have h : x.Keeps y := .ite (.ite (hb.beside rfl rfl) hb) (.refl x)
  exact h.beside rfl rfl

theorem keeps_sampleCb1 (level : Bool) (pbIn : Byte) : x.Keeps (x.sampleCb1 level pbIn) := by
  unfold sampleCb1
  extract_lets a b y
  have ha : x.Keeps a := .flag (k := ifrCB1) (by decide) rfl rfl
  have hb : x.Keeps b := .ite (ha.beside rfl rfl) ha
  have h : x.Keeps y := .ite (.ite (hb.beside rfl rfl) hb) (.refl x)
  exact h.beside rfl rfl

theorem keeps_sampleCa2 (level : Bool) : x.Keeps (x.sampleCa2 level) := by
  refine .ite ?_ (.refl x)
  extract_lets y
  have h : x.Keeps y := .ite (.flag (k := ifrCA2) (by decide) rfl rfl) (.refl x)
  exact h.beside rfl rfl

theorem keeps_sampleCb2 (level : Bool) : x.Keeps (x.sampleCb2 level) := by
  refine .ite ?_ (.refl x)
  extract_lets y
  have h : x.Keeps y := .ite (.flag (k := ifrCB2) (by decide) rfl rfl) (.refl x)
  exact h.beside rfl rfl

theorem keeps_tick (paIn pbIn : Byte) (ca1In : Bool) (other : ControlIn) : x.Keeps (x.tick paIn pbIn ca1In other) := by
  unfold tick
  extract_lets a b c
  have ha : x.Keeps a := (keeps_t2Tick _ pbIn).after (keeps_t1Tick x)
  have hb : x.Keeps b := (keeps_sampleCb1 _ _ _).after ((keeps_sampleCa1 _ _ _).after ha)
  have hc : x.Keeps c := (keeps_sampleCb2 _ _).after ((keeps_sampleCa2 _ _).after hb)
  exact hc.beside rfl rfl

end Via

/-! ### Every part of a step -/

variable {s t u : State}

/-- R114: IFR and IER of both VIAs lack bit 7. -/
def State.ViaBits (s : State) : Prop :=
  bit s.via1.ifr 7 = false ∧ bit s.via1.ier 7 = false ∧ bit s.via2.ifr 7 = false ∧ bit s.via2.ier 7 = false

/-- R1300: each VIA pulls its line exactly while its condition is true. -/
def State.ViaLine (s : State) : Prop :=
  s.lines.driveIrqVia1 = viaIrqCondition s.via1 ∧ s.lines.driveIrqVia2 = viaIrqCondition s.via2

/-- The change from `s` to `t` keeps what the VIAs and the head keep, and the VIAs' lines. -/
structure State.DriveKeeps (s t : State) : Prop where
  bits : s.ViaBits → t.ViaBits
  line : s.ViaLine → t.ViaLine
  head : s.HeadInv → t.HeadInv

namespace State.DriveKeeps

theorem refl (s : State) : s.DriveKeeps s := ⟨id, id, id⟩

theorem trans (h : s.DriveKeeps t) (h' : t.DriveKeeps u) : s.DriveKeeps u :=
  ⟨h'.bits ∘ h.bits, h'.line ∘ h.line, h'.head ∘ h.head⟩

theorem after (h' : t.DriveKeeps u) (h : s.DriveKeeps t) : s.DriveKeeps u := h.trans h'

/-- The parts of a step that leave the VIAs, their lines and the head. -/
theorem of_eq (h1 : t.via1 = s.via1) (h2 : t.via2 = s.via2) (hl1 : t.lines.driveIrqVia1 = s.lines.driveIrqVia1)
    (hl2 : t.lines.driveIrqVia2 = s.lines.driveIrqVia2) (hh : t.head = s.head) : s.DriveKeeps t := by
  refine ⟨fun h => ?_, fun h => ?_, fun h => ?_⟩
  · unfold State.ViaBits at *
    rwa [h1, h2]
  · unfold State.ViaLine at *
    rwa [h1, h2, hl1, hl2]
  · unfold State.HeadInv at *
    rwa [h2, hh]

/-- The change reaches of the head other parts than its invariant names. -/
theorem of_head {hd : Head} {ira : Byte} (ht : hd.bitReadyTimer = s.head.bitReadyTimer) (hz : hd.zone = s.head.zone)
    (hp : hd.stepperPhase = s.head.stepperPhase) (hs : hd.sync = s.head.sync) (hc : hd.byteReadyCounter = s.head.byteReadyCounter) :
    s.DriveKeeps { s with head := hd, via2 := { s.via2 with ira := ira } } := by
  refine ⟨id, id, fun ⟨hlo, hhi, hsync, hzone, hphase⟩ => ⟨?_, ?_, ?_, hz.trans hzone, hp.trans hphase⟩⟩
  · exact ht ▸ hlo
  · exact ht ▸ hhi
  · intro h
    exact hc.trans (hsync (hs.symm.trans h))

end State.DriveKeeps

theorem driveKeeps_viaAccess_via1 {x : Via} (h : s.via1.Keeps x) : s.DriveKeeps (s.viaAccess .via1 x) := by
  rw [viaAccess_via1]
  exact ⟨fun ⟨hifr, hier, h2⟩ => ⟨h.ifr hifr, h.ier hier, h2⟩, fun ⟨_, hl⟩ => ⟨rfl, hl⟩, id⟩

/-- R1001, R1104, R1130: zone and phase follow the new level of port B. -/
theorem driveKeeps_viaAccess_via2 {x : Via} (h : s.via2.Keeps x) : s.DriveKeeps (s.viaAccess .via2 x) := by
  have hbits : s.ViaBits → bit s.via1.ifr 7 = false ∧ bit s.via1.ier 7 = false ∧ bit x.ifr 7 = false ∧ bit x.ier 7 = false :=
    fun ⟨hifr1, hier1, hifr, hier⟩ => ⟨hifr1, hier1, h.ifr hifr, h.ier hier⟩
  by_cases hout : viaPbOut x = viaPbOut s.via2
  · rw [viaAccess_via2_quiet hout]
    refine ⟨hbits, fun ⟨hl, _⟩ => ⟨hl, rfl⟩, fun ⟨hlo, hhi, hsync, hzone, hphase⟩ => ⟨hlo, hhi, hsync, ?_, ?_⟩⟩
    · exact hzone.trans (congrArg zoneOf hout.symm)
    · exact hphase.trans (congrArg (field · 0 2) hout.symm)
  · obtain ⟨b, ms, d, hcheck⟩ := checkStep_frame s (viaPbOut x)
    rw [viaAccess_via2_changed hout, hcheck, headSees_frame]
    exact ⟨hbits, fun ⟨hl, _⟩ => ⟨hl, rfl⟩, fun ⟨hlo, hhi, hsync, _, _⟩ => ⟨hlo, hhi, hsync, rfl, rfl⟩⟩

theorem driveKeeps_viaAccess {v : ViaId} {x : Via} (h : (s.via v).Keeps x) : s.DriveKeeps (s.viaAccess v x) := by
  cases v
  · exact driveKeeps_viaAccess_via1 h
  · exact driveKeeps_viaAccess_via2 h

theorem driveKeeps_checkVia (s : State) (v : ViaId) : s.DriveKeeps (s.checkVia v) := by
  refine recover_keeps (P := s.DriveKeeps) (.refl s) fun _ => ?_
  cases v
  · exact ⟨fun ⟨hifr, hier, h2⟩ => ⟨(Via.keeps_clamped _).ifr hifr, (Via.keeps_clamped _).ier hier, h2⟩,
      fun ⟨hl1, hl2⟩ => ⟨hl1.trans (viaIrqCondition_clamped _).symm, hl2⟩, id⟩
  · exact ⟨fun ⟨hifr1, hier1, hifr, hier⟩ => ⟨hifr1, hier1, (Via.keeps_clamped _).ifr hifr, (Via.keeps_clamped _).ier hier⟩,
      fun ⟨hl1, hl2⟩ => ⟨hl1, hl2.trans (viaIrqCondition_clamped _).symm⟩, id⟩

theorem driveKeeps_viaTick (s : State) (v : ViaId) : s.DriveKeeps (s.viaTick v) :=
  (driveKeeps_viaAccess (Via.keeps_tick ..)).after (driveKeeps_checkVia s v)

/-! ### The bit clock (R1110, R1111) -/

/-- R1111, R1112: a bit taken sets SYNC, with the byte counter 0 under it, and reaches of the rest what `of_head` leaves open. -/
theorem takeBit_eq (s : State) (b : Bool) : ∃ ira sr wsr sync count line so, s.takeBit b = { s with
    via2 := { s.via2 with ira := ira }
    head := { s.head with
      readShiftreg := sr, writeShiftreg := wsr, sync := sync, byteReadyCounter := count, byteReadyLine := line }
    soPulses := so } := by
  unfold State.takeBit
  dsimp only
  generalize (s.readMode && _) = sync
  generalize (if sync = true then _ else s.head.byteReadyCounter + 1) = count
  split
  · obtain ⟨ira, wsr, line, so, h⟩ := byteReady_frame { s with head := { s.head with
      readShiftreg := s.head.readShiftreg <<< 1 ||| (bitOf b).setWidth 16, sync := sync, byteReadyCounter := count } }
    rw [h]
    exact ⟨_, _, _, _, _, _, _, rfl⟩
  · exact ⟨s.via2.ira, _, _, _, _, _, _, rfl⟩

theorem takeBit_sync_count (s : State) (b : Bool) (h : (s.takeBit b).head.sync = true) : (s.takeBit b).head.byteReadyCounter = 0 := by
  rw [takeBit_byteReadyCounter, if_pos h]

/-- What a bit under the head leaves: the chips but for VIA2's input latch, the zone, the phase, the timer and the half-track. -/
theorem executeBitReady_eq (s : State) : ∃ ira sr wsr sync count line i k ms d so, s.executeBitReady = { s with
    via2 := { s.via2 with ira := ira }
    head := { s.head with
      readShiftreg := sr, writeShiftreg := wsr, sync := sync, byteReadyCounter := count, byteReadyLine := line, bitoffset := i }
    disk := k, messages := ms, diagnosed := d, soPulses := so } := by
  obtain ⟨b, ms, d, hc⟩ := checkOffset_frame s
  obtain ⟨ira, sr, wsr, sync, count, line, so, ht⟩ := takeBit_eq s.checkOffset.headBit.2 s.checkOffset.headBit.1
  unfold State.executeBitReady
  dsimp only
  rw [ht, hc]
  unfold State.headBit
  dsimp only
  split <;> exact ⟨_, _, _, _, _, _, _, _, _, _, _, rfl⟩

theorem executeBitReady_sync_count (s : State) (h : s.executeBitReady.head.sync = true) :
    s.executeBitReady.head.byteReadyCounter = 0 := takeBit_sync_count _ _ h

theorem changeTick_eq (h : Head) : ∃ sig n, h.changeTick = { h with byteReadyLine := false, changeSignal := sig, changeTimer := n } := by
  unfold Head.changeTick
  dsimp only
  split <;> exact ⟨_, _, rfl⟩

/-- R1110: four quarter-microseconds pass. -/
theorem timer_range {n : BitVec 16} (hlo : -3 ≤ n.toInt) (hhi : n.toInt ≤ 16) : (n - 4).toInt = n.toInt - 4 := by
  rw [BitVec.toInt_sub]
  exact Int.bmod_eq_of_le (by simp; omega) (by simp; omega)

/-- R1105: a bit takes 13 to 16 of them. -/
theorem cyclesPerBit_range : ∀ zone : BitVec 2, 13 ≤ (cyclesPerBit zone).toInt ∧ (cyclesPerBit zone).toInt ≤ 16 := by decide

theorem timer_reload {n : BitVec 16} (hlo : -7 ≤ n.toInt) (hhi : n.toInt ≤ 0) (zone : BitVec 2) :
    (n + cyclesPerBit zone).toInt = n.toInt + (cyclesPerBit zone).toInt := by
  obtain ⟨h13, h16⟩ := cyclesPerBit_range zone
  rw [BitVec.toInt_add]
  exact Int.bmod_eq_of_le (by simp; omega) (by simp; omega)

/-- R1110, its second part: the bit clock of a running motor. -/
def State.bitClock (s : State) : State :=
  let s := { s with head := { s.head with bitReadyTimer := s.head.bitReadyTimer - 4 } }
  if s.head.bitReadyTimer.toInt ≤ 0 then
    let s := s.executeBitReady
    { s with head := { s.head with bitReadyTimer := s.head.bitReadyTimer + cyclesPerBit s.head.zone } }
  else s

/-- R1110, its first part. -/
def State.diskPulseEnds (s : State) : State := { s.checkHead with head := s.checkHead.head.changeTick }

theorem diskAdvance_eq (s : State) :
    s.diskAdvance = if s.diskPulseEnds.motorOn then s.diskPulseEnds.bitClock else s.diskPulseEnds := by
  rfl

theorem driveKeeps_diskPulseEnds (s : State) : s.DriveKeeps s.diskPulseEnds := by
  have hchecked : s.DriveKeeps s.checkHead :=
    ⟨recover_keeps (P := fun t => s.ViaBits → t.ViaBits) id fun _ => id, recover_keeps (P := fun t => s.ViaLine → t.ViaLine) id fun _ => id,
      fun h => (checkHead_inRange ⟨h.1, h.2.1⟩).symm ▸ h⟩
  obtain ⟨_, _, ht⟩ := changeTick_eq s.checkHead.head
  unfold State.diskPulseEnds
  exact hchecked.trans (ht ▸ .of_head (ira := s.checkHead.via2.ira) rfl rfl rfl rfl rfl)

theorem driveKeeps_bitClock (s : State) : s.DriveKeeps s.bitClock := by
  unfold State.bitClock
  dsimp only
  split
  · rename_i hdue
    have hcount := executeBitReady_sync_count { s with head := { s.head with bitReadyTimer := s.head.bitReadyTimer - 4 } }
    obtain ⟨ira, sr, wsr, sync, count, line, i, k, ms, d, so, he⟩ :=
      executeBitReady_eq { s with head := { s.head with bitReadyTimer := s.head.bitReadyTimer - 4 } }
    rw [he] at hcount ⊢
    refine ⟨id, id, fun ⟨hlo, hhi, _, hzone, hphase⟩ => ?_⟩
    have hpassed := timer_range hlo hhi
    have hreload := timer_reload (by omega) hdue s.head.zone
    have := cyclesPerBit_range s.head.zone
    exact ⟨by dsimp only; omega, by dsimp only; omega, hcount, hzone, hphase⟩
  · rename_i hdue
    refine ⟨id, id, fun ⟨hlo, hhi, hsync, hzone, hphase⟩ => ?_⟩
    have hpassed := timer_range hlo hhi
    exact ⟨by dsimp only; omega, by dsimp only; omega, hsync, hzone, hphase⟩

theorem driveKeeps_diskAdvance (s : State) : s.DriveKeeps s.diskAdvance := by
  rw [diskAdvance_eq]
  split
  · exact (driveKeeps_bitClock _).after (driveKeeps_diskPulseEnds s)
  · exact driveKeeps_diskPulseEnds s

/-! ### Every part of a cycle -/

theorem driveKeeps_operation {i : Instr} (h : exec i s = .next t) : s.DriveKeeps t := by
  have he := exec_effect i s
  unfold Effect at he
  split at he
  case h_1 =>
    have hf := Proofs.portFrames i s t h
    rename_i hp
    rw [hp] at hf
    exact .of_eq (congrArg State.via1 hf :) (congrArg State.via2 hf :) (congrArg (·.lines.driveIrqVia1) hf :)
      (congrArg (·.lines.driveIrqVia2) hf :) (congrArg State.head hf :)
  case h_2 =>
    have hf := Proofs.portFrames i s t h
    rename_i hp
    rw [hp] at hf
    dsimp only at hf
    split at hf <;>
      exact .of_eq (congrArg State.via1 hf :) (congrArg State.via2 hf :) (congrArg (·.lines.driveIrqVia1) hf :)
        (congrArg (·.lines.driveIrqVia2) hf :) (congrArg State.head hf :)
  case h_3 =>
    obtain ⟨v, u, -, hu, he⟩ := he
    obtain rfl := next_injective (hu.symm.trans h)
    cases he with
    | answered b => exact .of_eq rfl rfl rfl rfl rfl
    | accessed b x hx =>
      have hk := driveKeeps_viaAccess hx
      generalize s.viaAccess v x = u at hk ⊢
      exact hk.trans (.of_eq rfl rfl rfl rfl rfl)
    | shifting x hx =>
      have hk := driveKeeps_viaAccess hx
      generalize s.viaAccess v x = u at hk ⊢
      exact hk.trans (.of_eq rfl rfl rfl rfl rfl)
  case h_4 => cases he t h <;> exact .of_eq rfl rfl rfl rfl rfl

theorem driveKeeps_endCycle (s : State) : s.DriveKeeps s.endCycle := by
  unfold State.endCycle State.advanceRasterPosition
  split
  · exact .of_eq rfl rfl rfl rfl rfl
  · split <;> exact .of_eq rfl rfl rfl rfl rfl

/-- A predicate that goes through what the drive keeps, every part of a cycle keeps. -/
theorem drive_cycleKeeps {P : State → Prop} (h : ∀ s t : State, s.DriveKeeps t → P s → P t) : CycleKeeps P where
  ranged s := h _ _ (by obtain ⟨_, _, _, hf⟩ := checkRasterCycle_frame s; rw [hf]; exact .of_eq rfl rfl rfl rfl rfl)
  before s row _ := h _ _ (by obtain ⟨_, _, _, _, hf⟩ := vicBeforeAccess_irq s row; rw [hf]; exact .of_eq rfl rfl rfl rfl rfl)
  operation i s t hs hi := h _ _ (driveKeeps_operation hi) hs
  after s := h _ _ (.of_eq rfl rfl rfl rfl rfl)
  cia s c := h _ _ (by obtain ⟨_, _, _, _, hf⟩ := ciaTick_drive s c; rw [hf]; cases c <;> exact .of_eq rfl rfl rfl rfl rfl)
  iec s := h _ _ (by rw [iecStep_frame]; exact .of_eq rfl rfl rfl rfl rfl)
  queues s _ _ := h _ _ (.of_eq rfl rfl rfl rfl rfl)
  ram s _ _ := h _ _ (.of_eq rfl rfl rfl rfl rfl)
  color s _ _ := h _ _ (.of_eq rfl rfl rfl rfl rfl)
  returned s _ _ := h _ _ (.of_eq rfl rfl rfl rfl rfl)
  raised s _ := h _ _ (.of_eq rfl rfl rfl rfl rfl)
  disk s := h _ _ (driveKeeps_diskAdvance s)
  via s v := h _ _ (driveKeeps_viaTick s v)
  time s _ := h _ _ (.of_eq rfl rfl rfl rfl rfl)
  ended s := h _ _ (driveKeeps_endCycle s)

/-! ### The host operations -/

/-- R1402: the reset VIAs and head are what the drive keeps, whatever pins and timers they have. -/
theorem driveKeeps_resetDrive (s : State) : s.DriveKeeps s.resetDrive := by
  obtain ⟨x, y, n, hx, hy, hf⟩ := resetDrive_frame s
  have hquiet (z : Via) (hz : z.IsReset) : false = viaIrqCondition z := by
    rw [viaIrqCondition, hz.ifr, hz.ier]
    rfl
  rw [hf]
  refine ⟨fun _ => ?_, fun _ => ⟨hquiet x hx, hquiet y hy⟩, fun _ => ⟨?_, ?_, fun _ => rfl, ?_, ?_⟩⟩
  · exact ⟨congrArg (bit · 7) hx.ifr, congrArg (bit · 7) hx.ier, congrArg (bit · 7) hy.ifr, congrArg (bit · 7) hy.ier⟩
  · exact (by decide : -3 ≤ Head.reset.bitReadyTimer.toInt)
  · exact (by decide : Head.reset.bitReadyTimer.toInt ≤ 16)
  · exact (by decide : Head.reset.zone = zoneOf 0xff).trans (congrArg zoneOf hy.pb.symm)
  · exact (by decide : Head.reset.stepperPhase = field (0xff : Byte) 0 2).trans (congrArg (field · 0 2) hy.pb.symm)

theorem driveKeeps_resetHost (s : State) : s.DriveKeeps s.resetHost := .of_eq rfl rfl rfl rfl rfl

theorem driveKeeps_setCia (s : State) (c : CiaId) (x : Cia) : s.DriveKeeps (s.setCia c x) := by
  cases c <;> exact .of_eq rfl rfl rfl rfl rfl

theorem driveKeeps_setViaPins (s : State) (v : ViaId) (port : PinPort) (levels : Byte) : s.DriveKeeps (s.setViaPins v port levels) := by
  cases v <;> cases port <;> exact ⟨id, id, id⟩

theorem driveKeeps_applyHostOp (op : HostOp) (h : applyHostOp op s = .next t) : s.DriveKeeps t := by
  cases op with
  | configure r =>
    obtain ⟨_, _, hf⟩ := configure_frame s r
    exact of_next (hf ▸ .of_eq rfl rfl rfl rfl rfl) h
  | powerOn =>
    have hreset := (driveKeeps_resetHost s).trans (driveKeeps_resetDrive s.resetHost)
    obtain rfl := next_injective h
    exact hreset.trans ⟨id, id, id⟩
  | resetHost => exact of_next (driveKeeps_resetHost s) h
  | resetDrive => exact of_next (driveKeeps_resetDrive s) h
  | insertDisk image =>
    obtain ⟨_, _, _, _, _, _, rfl⟩ := insertDisk_frame h
    exact ⟨id, id, id⟩
  | setCiaPins c port levels => cases port <;> exact of_next (driveKeeps_setCia s c _) h
  | setViaPins v port levels => exact of_next (driveKeeps_setViaPins s v port levels) h
  | setCnt c level => exact of_next (driveKeeps_setCia s c _) h
  | setFlag c level => exact of_next (driveKeeps_setCia s c _) h
  | setSp c level => exact of_next (driveKeeps_setCia s c _) h
  | setLightPen level =>
    obtain ⟨_, _, hf⟩ := setLightPen_frame s level
    exact of_next (hf ▸ .of_eq rfl rfl rfl rfl rfl) h
  | assertUltimax => cases h
  | ejectDisk | setControlPins | pullNmiRestore | releaseNmiRestore | suspend | resume | readFrame | warpMode | saveSnapshot =>
    obtain rfl := next_injective h
    exact ⟨id, id, id⟩

/-- A predicate that goes through what the drive keeps, a step keeps. -/
theorem drive_step {P : State → Prop} (hP : ∀ s t : State, s.DriveKeeps t → P s → P t) (hs : P s) (h : step s = .next t) : P t :=
  step_keeps_always (drive_cycleKeeps hP) (fun op s _ hs ho => hP s _ (driveKeeps_applyHostOp op ho) hs)
    (fun s _ hs => hP s _ (.of_eq rfl rfl rfl rfl rfl) hs) hs h

end Sys2Proof.Machine

namespace Sys2Proof.Proofs

open Sys2Proof Sys2Proof.Machine

/-- Settles O43: the VIC's line, the CIAs' and the VIAs', each by its chip's side. -/
theorem lineInvariant : Obligations.LineInvariant := by
  intro s t ⟨hvic, hcia1, hcia2, hvia⟩ h
  have hvic := vic_step (P := State.VicLine) (fun _ _ hk => hk.line) hvic h
  have hcia := cia_step (P := State.CiaLine) (fun _ _ hk => hk.line) ⟨hcia1, hcia2⟩ h
  have hvia := drive_step (P := State.ViaLine) (fun _ _ hk => hk.line) hvia h
  exact ⟨hvic, hcia.1, hcia.2, hvia⟩

/-- Settles O44: the VIC's side, and the VIAs' for the bits they lack. -/
theorem vicInvariant : Obligations.VicInvariant := by
  intro s t
  refine ⟨fun ⟨hirr, himr, hcr2, hmemptr, hvia⟩ h => ?_, fun hs h => ?_, fun hs h => ?_⟩
  · have hvic := vic_step (P := fun s => s.vic.UnusedZero) (fun _ _ hk => hk.vic.unused) ⟨hirr, himr, hcr2, hmemptr⟩ h
    have hvia := drive_step (P := State.ViaBits) (fun _ _ hk => hk.bits) hvia h
    obtain ⟨hirr, himr, hcr2, hmemptr⟩ := hvic
    exact ⟨hirr, himr, hcr2, hmemptr, hvia⟩
  · exact vic_step (P := State.DisplayInv) (fun _ _ hk => hk.vic.shown) hs h
  · exact vic_step (P := State.ExpansionInv) (fun _ _ hk => hk.vic.expansion) hs h

end Sys2Proof.Proofs
end

section
/-!
PROOFS. The head on its half-track: what a level of port B does to it (O57), and that the bit offset stays inside a half-track that is not
empty (the second part of O46).
-/

namespace Sys2Proof.Machine

/-! ### A step of the head (R1130, R1131) -/

section
variable {d : Disk} {h : Head} {pb : Byte}

theorem up_iff : ∀ p q : BitVec 2, p.toNat = (q.toNat + 1) % 4 ↔ p = q + 1 := by decide

theorem down_iff : ∀ p q : BitVec 2, p.toNat = (q.toNat + 3) % 4 ↔ p = q - 1 := by decide

theorem up_ne_down : ∀ q : BitVec 2, q - 1 ≠ q + 1 := by decide

theorem stepTarget_up {p : BitVec 2} (hp : p.toNat = (h.stepperPhase.toNat + 1) % 4) (hh : h.halftrack.val < 83) :
    stepTarget h p = some (h.halftrack + 1) :=
  if_pos ⟨(up_iff _ _).mp hp, hh⟩

theorem stepTarget_down {p : BitVec 2} (hp : p.toNat = (h.stepperPhase.toNat + 3) % 4) (hh : 0 < h.halftrack.val) :
    stepTarget h p = some (h.halftrack - 1) := by
  obtain rfl := (down_iff _ _).mp hp
  rw [stepTarget, if_neg fun hu => up_ne_down _ hu.1, if_pos ⟨rfl, hh⟩]

theorem stepTarget_still {p : BitVec 2} (hup : ¬ (p.toNat = (h.stepperPhase.toNat + 1) % 4 ∧ h.halftrack.val < 83))
    (hdown : ¬ (p.toNat = (h.stepperPhase.toNat + 3) % 4 ∧ 0 < h.halftrack.val)) : stepTarget h p = none := by
  rw [up_iff] at hup
  rw [down_iff] at hdown
  exact (if_neg hup).trans (if_neg hdown)

/-- A level of port B that moves the head. -/
theorem headSees_of_target {target : Fin 84} (ht : stepTarget h (field pb 0 2) = some target) : headSees d h pb =
    { moveHead d h target with stepperPhase := field pb 0 2, zone := zoneOf pb } := by
  have hp : field pb 0 2 ≠ h.stepperPhase := by
    intro hp
    rw [hp, stepTarget_same] at ht
    cases ht
  rw [headSees_eq, if_neg hp, stepHead, ht]
  rfl

/-- A level of port B that does not. -/
theorem headSees_of_still (ht : stepTarget h (field pb 0 2) = none) : headSees d h pb =
    { h with stepperPhase := field pb 0 2, zone := zoneOf pb } := by
  rw [headSees_eq]
  split
  · rename_i hp
    rw [hp]
    rfl
  · rw [stepHead, ht]
    rfl

/-- R1131: the rescaled offset is inside the new half-track. -/
theorem moveHead_offset_lt {target : Fin 84} (ho : h.bitoffset.toNat < d.trackLength h.halftrack) (ht : 0 < d.trackLength target) :
    (moveHead d h target).bitoffset.toNat < d.trackLength target := by
  have hscaled : h.bitoffset.toNat * d.trackLength target / d.trackLength h.halftrack < d.trackLength target :=
    Nat.div_lt_of_lt_mul (Nat.mul_lt_mul_of_pos_right ho ht)
  calc (moveHead d h target).bitoffset.toNat
    _ = h.bitoffset.toNat * d.trackLength target / d.trackLength h.halftrack / 8 * 8 % 2 ^ 16 := BitVec.toNat_ofNat ..
    _ ≤ h.bitoffset.toNat * d.trackLength target / d.trackLength h.halftrack / 8 * 8 := Nat.mod_le ..
    _ ≤ h.bitoffset.toNat * d.trackLength target / d.trackLength h.halftrack := Nat.div_mul_le_self ..
    _ < d.trackLength target := hscaled

theorem headSees_offset_lt (ho : h.bitoffset.toNat < d.trackLength h.halftrack) (hg : 0 < d.trackLength (headSees d h pb).halftrack) :
    (headSees d h pb).bitoffset.toNat < d.trackLength (headSees d h pb).halftrack := by
  cases ht : stepTarget h (field pb 0 2) with
  | none =>
    rw [headSees_of_still ht]
    exact ho
  | some target =>
    rw [headSees_of_target ht] at hg ⊢
    exact moveHead_offset_lt ho hg

end

end Sys2Proof.Machine

namespace Sys2Proof.Proofs

open Sys2Proof Sys2Proof.Machine

/-- Settles O57, by where the phase moves the head. -/
theorem headSteps : Obligations.HeadSteps := by
  have hup : ∀ a : Fin 84, a.val < 83 → (a + 1).val = a.val + 1 := by decide
  have hdown : ∀ a : Fin 84, 0 < a.val → (a - 1).val = a.val - 1 := by decide
  intro d h pb new old g
  refine ⟨fun hp hh => ?up, fun hp hh => ?down, fun hu hd => ?still, headSees_offset_lt, headSees_frame d h pb⟩
  case up =>
    have hg : g = _ := headSees_of_target (stepTarget_up hp hh)
    rw [hg]
    exact ⟨hup _ hh, rfl⟩
  case down =>
    have hg : g = _ := headSees_of_target (stepTarget_down hp hh)
    rw [hg]
    exact ⟨hdown _ hh, rfl⟩
  case still =>
    have hg : g = _ := headSees_of_still (stepTarget_still hu hd)
    rw [hg]
    exact ⟨rfl, rfl⟩

end Sys2Proof.Proofs

namespace Sys2Proof.Machine

/-! ### The offset over a step (R1116, R1131, R1160) -/

variable {s t : State}

/-- No half-track is empty, now or after a power-on, and the bit offset is one of the half-track under the head. -/
def State.OnTrack (s : State) : Prop :=
  configTracksNonempty s.cfg ∧ s.disk.tracksNonempty ∧ s.head.bitoffset.toNat < s.disk.trackLength s.head.halftrack

theorem State.OnTrack.of_eq (hs : s.OnTrack) (hc : t.cfg = s.cfg) (hd : t.disk = s.disk) (hh : t.head = s.head) : t.OnTrack := by
  unfold State.OnTrack
  rwa [hc, hd, hh]

theorem trackLength_pos {d : Disk} (hd : d.tracksNonempty) (h : Fin 84) : 0 < d.trackLength h := by
  obtain ⟨hlen, hpos⟩ := hd
  have hh : h.val < d.tracks.length := by
    rw [hlen]
    exact h.isLt
  rw [Disk.trackLength, Disk.track, List.getD_eq_getElem _ _ hh]
  exact hpos _ (List.getElem_mem hh)

/-- R1111: a written bit leaves the lengths. -/
theorem trackLength_writeBit (d : Disk) (h g : Fin 84) (i : Nat) (b : Bool) : (d.writeBit h i b).trackLength g = d.trackLength g := by
  unfold Disk.writeBit
  split
  · unfold Disk.trackLength Disk.track
    simp only [List.getD_eq_getElem?_getD, List.getElem?_set]
    split
    · rename_i hhg
      rw [← hhg]
      split
      · rename_i hlt
        rw [List.getElem?_eq_getElem hlt]
        rfl
      · rename_i hlt
        rw [List.getElem?_eq_none (Nat.le_of_not_lt hlt)]
    · rfl
  · rfl

theorem writeBit_tracksNonempty {d : Disk} (hd : d.tracksNonempty) (h : Fin 84) (i : Nat) (b : Bool) :
    (d.writeBit h i b).tracksNonempty := by
  have hpos := trackLength_pos hd h
  obtain ⟨hlen, hall⟩ := hd
  unfold Disk.writeBit
  split
  · refine ⟨(List.length_set ..).trans hlen, fun t ht => ?_⟩
    obtain ht | rfl := List.mem_or_eq_of_mem_set ht
    · exact hall t ht
    · exact hpos
  · exact ⟨hlen, hall⟩

theorem onTrack_viaAccess {v : ViaId} {x : Via} (hs : s.OnTrack) : (s.viaAccess v x).OnTrack := by
  cases v
  · rw [viaAccess_via1]
    exact hs
  · by_cases hout : viaPbOut x = viaPbOut s.via2
    · rw [viaAccess_via2_quiet hout]
      exact hs
    · have hkept : ¬ s.OffsetLost (viaPbOut x) := fun h => absurd h.2 (Nat.not_le.mpr hs.2.2)
      rw [viaAccess_via2_changed hout, checkStep_of_not_lost hkept]
      exact ⟨hs.1, hs.2.1, headSees_offset_lt hs.2.2 (trackLength_pos hs.2.1 _)⟩

theorem onTrack_headBit (hs : s.OnTrack) : s.headBit.2.OnTrack := by
  unfold State.headBit
  dsimp only
  split
  · exact hs
  · refine ⟨hs.1, writeBit_tracksNonempty hs.2.1 _ _ _, ?_⟩
    dsimp only
    rw [trackLength_writeBit]
    exact hs.2.2

theorem onTrack_takeBit (hs : s.OnTrack) (b : Bool) : (s.takeBit b).OnTrack := by
  obtain ⟨_, _, _, _, _, _, _, h⟩ := takeBit_eq s b
  rw [h]
  exact hs

theorem trackLength_headBit (s : State) :
    s.headBit.2.disk.trackLength s.headBit.2.head.halftrack = s.disk.trackLength s.head.halftrack := by
  unfold State.headBit
  dsimp only
  split
  · rfl
  · exact trackLength_writeBit ..

/-- R1111: the offset advances around the half-track. -/
theorem onTrack_executeBitReady (hs : s.OnTrack) : s.executeBitReady.OnTrack := by
  have hn := trackLength_pos hs.2.1 s.head.halftrack
  have hl : s.disk.trackLength s.head.halftrack < 2 ^ 16 := (s.disk.track s.head.halftrack).length.isLt
  have ht := onTrack_takeBit (onTrack_headBit hs) s.headBit.1
  have hlen : (s.headBit.2.takeBit s.headBit.1).disk.trackLength (s.headBit.2.takeBit s.headBit.1).head.halftrack =
      s.disk.trackLength s.head.halftrack := by
    obtain ⟨_, _, _, _, _, _, _, h⟩ := takeBit_eq s.headBit.2 s.headBit.1
    rw [h]
    exact trackLength_headBit s
  unfold State.executeBitReady
  rw [checkOffset_inRange hs.2.2]
  refine ⟨ht.1, ht.2.1, ?_⟩
  dsimp only
  rw [hlen, if_neg (Nat.ne_of_gt hn), BitVec.toNat_ofNat]
  exact (Nat.mod_le _ _).trans_lt (Nat.mod_lt _ hn)

theorem onTrack_bitClock (hs : s.OnTrack) : s.bitClock.OnTrack := by
  unfold State.bitClock
  dsimp only
  split
  · have h := onTrack_executeBitReady (s := { s with head := { s.head with bitReadyTimer := s.head.bitReadyTimer - 4 } }) hs
    generalize State.executeBitReady _ = u at h ⊢
    exact h
  · exact hs

theorem onTrack_diskAdvance (hs : s.OnTrack) : s.diskAdvance.OnTrack := by
  obtain ⟨_, _, _, hc⟩ := checkHead_frame s
  obtain ⟨_, _, ht⟩ := changeTick_eq s.checkHead.head
  have hticked : s.diskPulseEnds.OnTrack := by
    unfold State.diskPulseEnds
    rw [ht, hc]
    exact hs
  rw [diskAdvance_eq]
  split
  · exact onTrack_bitClock hticked
  · exact hticked

theorem onTrack_operation {i : Instr} (hs : s.OnTrack) (h : exec i s = .next t) : t.OnTrack := by
  have hf := Proofs.portFrames i s t h
  have he := exec_effect i s
  unfold Effect at he
  split at hf <;> rename_i hp <;> rw [hp] at he
  · exact hs.of_eq (congrArg State.cfg hf :) (congrArg State.disk hf :) (congrArg State.head hf :)
  · exact hs.of_eq (congrArg State.cfg hf :) (congrArg State.disk hf :) (congrArg State.head hf :)
  · split at hf <;> exact hs.of_eq (congrArg State.cfg hf :) (congrArg State.disk hf :) (congrArg State.head hf :)
  · obtain ⟨v, u, -, hu, he⟩ := he
    obtain rfl := next_injective (hu.symm.trans h)
    cases he with
    | answered b => exact hs
    | accessed b x => exact (onTrack_viaAccess hs).of_eq rfl rfl rfl
    | shifting x => exact (onTrack_viaAccess hs).of_eq rfl rfl rfl

theorem onTrack_viaTick (hs : s.OnTrack) (v : ViaId) : (s.viaTick v).OnTrack := by
  obtain ⟨y, ms, d, hc⟩ := checkVia_frame s v
  have hchecked : (s.checkVia v).OnTrack := by
    rw [hc]
    cases v <;> exact hs
  exact onTrack_viaAccess hchecked

theorem onTrack_endCycle (hs : s.OnTrack) : s.endCycle.OnTrack := by
  unfold State.endCycle State.advanceRasterPosition
  split
  · exact hs
  · split <;> exact hs

theorem onTrack_cycleKeeps : CycleKeeps State.OnTrack where
  ranged s hs := by obtain ⟨_, _, _, hf⟩ := checkRasterCycle_frame s; rw [hf]; exact hs
  before s row _ hs := by obtain ⟨_, _, _, _, hf⟩ := vicBeforeAccess_frame s row; rw [hf]; exact hs
  operation i s t := onTrack_operation
  after s hs := hs
  cia s c hs := by obtain ⟨_, _, _, _, hf⟩ := ciaTick_drive s c; rw [hf]; cases c <;> exact hs
  iec s hs := by rw [iecStep_frame]; exact hs
  queues s _ _ hs := hs
  ram s _ _ hs := hs
  color s _ _ hs := hs
  returned s _ _ hs := hs
  raised s _ hs := hs
  disk s := onTrack_diskAdvance
  via s v hs := onTrack_viaTick hs v
  time s _ hs := hs
  ended s := onTrack_endCycle

/-! ### The host operations -/

theorem powerOn_tracksNonempty {c : Config} (h : configTracksNonempty c) : (Disk.powerOn c).tracksNonempty := by
  refine ⟨(List.length_map ..).trans h.1, fun t ht => ?_⟩
  obtain ⟨n, hn, rfl⟩ := List.mem_map.mp ht
  have hne : n ≠ 0 := fun h0 => h.2 (h0 ▸ hn)
  exact Nat.pos_of_ne_zero fun h0 => hne (BitVec.eq_of_toNat_eq h0)

/-- R1140: the offset becomes its remainder by the new length. -/
theorem onTrack_insertDisk {image : DiskImage} (hs : s.OnTrack) (hq : (HostOp.insertDisk image).tracksNonempty)
    (h : s.insertDisk image = .next t) : t.OnTrack := by
  unfold State.insertDisk at h
  split at h
  · cases h
  · rename_i tracks wp himage
    obtain rfl := next_injective h
    have hd : Disk.tracksNonempty ⟨true, tracks, wp⟩ := hq tracks wp himage
    have hn := trackLength_pos hd s.head.halftrack
    dsimp only
    rw [if_neg (Nat.ne_of_gt hn)]
    refine ⟨hs.1, hd, ?_⟩
    dsimp only
    rw [BitVec.toNat_ofNat]
    exact (Nat.mod_le _ _).trans_lt (Nat.mod_lt _ hn)

theorem onTrack_setCia (hs : s.OnTrack) (c : CiaId) (x : Cia) : (s.setCia c x).OnTrack := by
  cases c <;> exact hs

theorem onTrack_setViaFields (hs : s.OnTrack) (v : ViaId) (x : Via) : (s.setViaFields v x).OnTrack := by
  cases v <;> exact hs

/-- R440, R3: a configuration sets the parameters alone. -/
theorem onTrack_configure {r : ConfigRequest} (hq : configTracksNonempty r.rest) (hs : s.OnTrack) : (s.configure r).OnTrack := by
  unfold State.configure
  split
  · exact ⟨hq, hs.2⟩
  · exact hs

/-- R1403: an empty drive has the half-tracks of the parameters. -/
theorem onTrack_powerUp (hs : s.OnTrack) : s.powerUp.OnTrack := by
  obtain ⟨_, _, _, -, -, hf⟩ := resetDrive_frame s.resetHost
  have hd := powerOn_tracksNonempty hs.1
  unfold State.powerUp
  rw [hf]
  exact ⟨hs.1, hd, trackLength_pos hd Head.reset.halftrack⟩

theorem onTrack_resetDrive (hs : s.OnTrack) : s.resetDrive.OnTrack := by
  obtain ⟨_, _, _, -, -, hf⟩ := resetDrive_frame s
  rw [hf]
  exact ⟨hs.1, hs.2.1, trackLength_pos hs.2.1 Head.reset.halftrack⟩

theorem onTrack_applyHostOp (op : HostOp) (hq : op.tracksNonempty) (hs : s.OnTrack) (h : applyHostOp op s = .next t) : t.OnTrack := by
  cases op with
  | configure r => exact of_next (onTrack_configure hq hs) h
  | powerOn => exact of_next (onTrack_powerUp hs) h
  | resetDrive => exact of_next (onTrack_resetDrive hs) h
  | insertDisk image => exact onTrack_insertDisk hs hq h
  | setCiaPins c port levels => cases port <;> exact of_next (onTrack_setCia hs c _) h
  | setViaPins v port levels => cases port <;> exact of_next (onTrack_setViaFields hs v _) h
  | setCnt c level => exact of_next (onTrack_setCia hs c _) h
  | setFlag c level => exact of_next (onTrack_setCia hs c _) h
  | setSp c level => exact of_next (onTrack_setCia hs c _) h
  | setLightPen level =>
    obtain ⟨_, _, hf⟩ := setLightPen_frame s level
    exact of_next (hf ▸ hs) h
  | assertUltimax => cases h
  | resetHost | ejectDisk | setControlPins | pullNmiRestore | releaseNmiRestore | suspend | resume | readFrame | warpMode | saveSnapshot =>
    obtain rfl := next_injective h
    exact hs

theorem offset_step (hs : s.OffsetInv) (h : step s = .next t) : t.OffsetInv := by
  obtain ⟨hc, hd, ho, hq⟩ := hs
  obtain ⟨⟨hc, hd, ho⟩, hq⟩ := step_keeps_waiting (Q := HostOp.tracksNonempty) onTrack_cycleKeeps
    (fun op _ _ => onTrack_applyHostOp op) (fun _ _ hs => hs) ⟨hc, hd, ho⟩ hq h
  exact ⟨hc, hd, ho, hq⟩

end Sys2Proof.Machine
end

section
/-!
PROOFS. The memories in canonical form over a step (O41).
-/

namespace Sys2Proof.Machine

variable {s t : State}

/-- Host RAM, colour RAM and its initial contents are in canonical form. -/
def State.RamsWf (s : State) : Prop := s.ram.wf ∧ s.colorRam.wf ∧ s.cfg.colorRamInit.wf

theorem State.RamsWf.of_eq (hs : s.RamsWf) (hr : t.ram = s.ram) (hc : t.colorRam = s.colorRam) (hf : t.cfg = s.cfg) : t.RamsWf := by
  unfold State.RamsWf
  rwa [hr, hc, hf]

theorem ramsWf_operation {i : Instr} (hs : s.RamsWf) (h : exec i s = .next t) : t.RamsWf := by
  have hf := Proofs.portFrames i s t h
  split at hf
  · exact hs.of_eq (congrArg State.ram hf :) (congrArg State.colorRam hf :) (congrArg State.cfg hf :)
  · exact hs.of_eq (congrArg State.ram hf :) (congrArg State.colorRam hf :) (congrArg State.cfg hf :)
  · split at hf <;> exact hs.of_eq (congrArg State.ram hf :) (congrArg State.colorRam hf :) (congrArg State.cfg hf :)
  · split at hf <;> exact hs.of_eq (congrArg State.ram hf :) (congrArg State.colorRam hf :) (congrArg State.cfg hf :)

theorem ramsWf_endCycle (hs : s.RamsWf) : s.endCycle.RamsWf := by
  unfold State.endCycle State.advanceRasterPosition
  split
  · exact hs
  · split <;> exact hs

theorem ramsWf_cycleKeeps : CycleKeeps State.RamsWf where
  ranged s hs := by obtain ⟨_, _, _, hf⟩ := checkRasterCycle_frame s; rw [hf]; exact hs
  before s row _ hs := by obtain ⟨_, _, _, _, hf⟩ := vicBeforeAccess_frame s row; rw [hf]; exact hs
  operation i s t := ramsWf_operation
  after s hs := hs
  cia s c hs := by obtain ⟨_, _, _, _, hf⟩ := ciaTick_drive s c; rw [hf]; cases c <;> exact hs
  iec s hs := by rw [iecStep_frame]; exact hs
  queues s _ _ hs := hs
  ram s a d hs := ⟨Memory.wf_write hs.1 a d, hs.2⟩
  color s a d hs := ⟨hs.1, Memory.wf_write hs.2.1 a _, hs.2.2⟩
  returned s _ _ hs := hs
  raised s _ hs := hs
  disk s hs := by obtain ⟨_, _, _, _, _, _, hf⟩ := diskAdvance_frame s; rw [hf]; exact hs
  via s v hs := by obtain ⟨_, _, _, _, _, _, _, _, hf⟩ := viaTick_frame s v; rw [hf]; exact hs
  time s _ hs := hs
  ended s := ramsWf_endCycle

/-! ### The host operations -/

theorem ramsWf_setCia (hs : s.RamsWf) (c : CiaId) (x : Cia) : (s.setCia c x).RamsWf := by
  cases c <;> exact hs

theorem ramsWf_setViaFields (hs : s.RamsWf) (v : ViaId) (x : Via) : (s.setViaFields v x).RamsWf := by
  cases v <;> exact hs

theorem ramsWf_configure {r : ConfigRequest} (hq : r.rest.colorRamInit.wf) (hs : s.RamsWf) : (s.configure r).RamsWf := by
  unfold State.configure
  split
  · exact ⟨hs.1, hs.2.1, hq⟩
  · exact hs

/-- R1403: colour RAM starts as the parameter has it. -/
theorem ramsWf_powerUp (hs : s.RamsWf) : s.powerUp.RamsWf := by
  obtain ⟨_, _, _, -, -, hf⟩ := resetDrive_frame s.resetHost
  unfold State.powerUp
  rw [hf]
  exact ⟨hs.1, hs.2.2, hs.2.2⟩

theorem ramsWf_applyHostOp (op : HostOp) (hq : op.canonical) (hs : s.RamsWf) (h : applyHostOp op s = .next t) : t.RamsWf := by
  cases op with
  | configure r => exact of_next (ramsWf_configure hq hs) h
  | powerOn => exact of_next (ramsWf_powerUp hs) h
  | resetDrive =>
    obtain ⟨_, _, _, -, -, hf⟩ := resetDrive_frame s
    exact of_next (hf ▸ hs) h
  | insertDisk image =>
    obtain ⟨_, _, _, _, _, _, rfl⟩ := insertDisk_frame h
    exact hs
  | setCiaPins c port levels => cases port <;> exact of_next (ramsWf_setCia hs c _) h
  | setViaPins v port levels => cases port <;> exact of_next (ramsWf_setViaFields hs v _) h
  | setCnt c level => exact of_next (ramsWf_setCia hs c _) h
  | setFlag c level => exact of_next (ramsWf_setCia hs c _) h
  | setSp c level => exact of_next (ramsWf_setCia hs c _) h
  | setLightPen level =>
    obtain ⟨_, _, hf⟩ := setLightPen_frame s level
    exact of_next (hf ▸ hs) h
  | assertUltimax => cases h
  | resetHost | ejectDisk | setControlPins | pullNmiRestore | releaseNmiRestore | suspend | resume | readFrame | warpMode | saveSnapshot =>
    obtain rfl := next_injective h
    exact hs

end Sys2Proof.Machine

namespace Sys2Proof.Proofs

open Sys2Proof Sys2Proof.Machine

/-- Settles O41: the memories outside the VIC by their writes, the frame buffers by the pixels put. -/
theorem memoryInvariant : Obligations.MemoryInvariant := by
  intro s t ⟨⟨hram, hcolor, hone, htwo, hinit⟩, hq⟩ h
  have hbuffers := vic_step (P := fun s => s.vic.BuffersWf) (fun _ _ hk => hk.vic.buffers) ⟨hone, htwo⟩ h
  obtain ⟨⟨hram, hcolor, hinit⟩, hq⟩ := step_keeps_waiting (Q := HostOp.canonical) ramsWf_cycleKeeps
    (fun op _ _ => ramsWf_applyHostOp op) (fun _ _ hs => hs) ⟨hram, hcolor, hinit⟩ hq h
  exact ⟨⟨hram, hcolor, hbuffers.1, hbuffers.2, hinit⟩, hq⟩

end Sys2Proof.Proofs
end

section
/-!
PROOFS. The accesses of the two CPUs: the words they present decode and complete (O36), they leave the clock, and a step runs them (O37).
-/

namespace Sys2Proof.Machine

/-! ### The clock: what only the end of a cycle and a drive cycle advance -/

/-- The parameters, the waiting host operations, the counters and the raster position. -/
structure Clock where
  cfg : Config
  hostOps : List (Nat × HostOp)
  cycle : BitVec 64
  frame : BitVec 64
  driveTimeAcc : BitVec 64
  rasterCycle : Nat
  yCounter : BitVec 32

def State.clock (s : State) : Clock :=
  ⟨s.cfg, s.hostOps, s.cycle, s.frame, s.driveTimeAcc, s.vic.rasterCycle, s.vic.yCounter⟩

variable {s t : State}

theorem clock_of_hvEffect (h : HvEffect s t) : t.clock = s.clock := by
  cases h with
  | answered => rfl
  | register => rfl
  | expansion => rfl
  | compared cr1 delayed line =>
    by_cases hfires : Vic.CompareFires { s.vic with reg := { s.vic.reg with cr1 := cr1 }, regDelayed := delayed, rasterIrqLine := line }
    · rw [rasterCompareOnWrite_of_fires hfires]
      rfl
    · rw [rasterCompareOnWrite_of_not_fires hfires]
      rfl
  | interrupt => rfl

theorem exec_clock {i : Instr} (h : exec i s = .next t) : t.clock = s.clock := by
  have hf := Proofs.portFrames i s t h
  have he := exec_effect i s
  unfold Effect at he
  split at hf <;> rename_i hp <;> rw [hp] at he
  · obtain ⟨u, hu, he⟩ := he
    exact next_injective (hu.symm.trans h) ▸ clock_of_hvEffect he
  · cases he t h <;> rfl
  · split at hf <;> exact (congrArg State.clock hf :)
  · split at hf <;> exact (congrArg State.clock hf :)

/-! ### The words of the CPUs complete (R301-R303) -/

theorem portOf_of_decode {b : BusWord} {i : Instr} (h : decode b = .ok i) : portOf i = b.port := by
  have he := ((Proofs.encodeDecode b).1 i h).2
  rw [portOf, he]
  split <;> rfl

/-- An operation of a CPU's port completes in every state, and leaves the clock. -/
theorem exec_completes {i : Instr} (hp : portOf i ≠ .va) (s : State) : ∃ t, exec i s = .next t ∧ t.clock = s.clock := by
  have he := exec_effect i s
  unfold Effect at he
  split at he
  case h_4 h => exact absurd h hp
  case h_1 => obtain ⟨t, ht, -⟩ := he; exact ⟨t, ht, exec_clock ht⟩
  case h_2 => obtain ⟨-, t, -, ht, -⟩ := he; exact ⟨t, ht, exec_clock ht⟩
  case h_3 => obtain ⟨-, t, -, ht, -⟩ := he; exact ⟨t, ht, exec_clock ht⟩

/-- A word of a CPU's port that fits its format. -/
def CpuWord (b : BusWord) : Prop := b.port ≠ .va ∧ b.word.toNat < 2 ^ b.port.width

theorem runWord_completes {b : BusWord} (h : CpuWord b) (s : State) : ∃ t, runWord exec b s = .next t ∧ t.clock = s.clock := by
  obtain ⟨i, hi⟩ := (Proofs.encodeDecode b).2.mpr ⟨h.2, fun hv => h.1 hv.1⟩
  rw [runWord_of_decode hi]
  exact exec_completes (portOf_of_decode hi ▸ h.1) s

theorem cpuWord_hv (read : Bool) (offset : BitVec 6) (d : Byte) : CpuWord (hvWord read offset d) := by
  have hfits : ∀ (read : Bool) (offset : BitVec 6), (hvWord read offset 0).word.toNat < 2 ^ Port.hv.width := by decide
  exact ⟨nofun, hfits read offset⟩

theorem cpuWord_hc (read : Bool) (c : CiaId) (offset : BitVec 4) (d : Byte) : CpuWord (hcWord read c offset d) := by
  have hfits : ∀ (read : Bool) (offset : BitVec 4), (hcWord read c offset 0).word.toNat < 2 ^ Port.hc.width := by cases c <;> decide
  exact ⟨nofun, hfits read offset⟩

theorem cpuWord_dv (read : Bool) (v : ViaId) (offset : BitVec 4) (d : Byte) : CpuWord (dvWord read v offset d) := by
  have hfits : ∀ (read : Bool) (offset : BitVec 4), (dvWord read v offset 0).word.toNat < 2 ^ Port.dv.width := by cases v <;> decide
  exact ⟨nofun, hfits read offset⟩

theorem cpuWord_ioTarget {read : Bool} {addr : BitVec 16} {d : Byte} {b : BusWord} (h : ioTarget read addr d = .chip b) : CpuWord b := by
  unfold ioTarget at h
  split at h <;> cases h
  case h_9 | h_10 => exact cpuWord_hc ..
  all_goals exact cpuWord_hv ..

/-- Whatever the host CPU presents completes and leaves the clock. -/
theorem hostAccess_completes (a : HostAccess) (s : State) : ∃ t, hostAccess exec a s = .next t ∧ t.clock = s.clock := by
  cases a with
  | idle => exact ⟨_, rfl, rfl⟩
  | ramRead addr => exact ⟨_, rfl, rfl⟩
  | ramWrite addr d => exact ⟨_, rfl, rfl⟩
  | ioRead addr =>
    simp only [hostAccess]
    split
    · exact runWord_completes (cpuWord_ioTarget ‹_›) s
    · exact ⟨_, rfl, rfl⟩
    · exact ⟨_, rfl, rfl⟩
  | ioWrite addr d =>
    simp only [hostAccess]
    split
    · exact runWord_completes (cpuWord_ioTarget ‹_›) s
    · exact ⟨_, rfl, rfl⟩
    · exact ⟨_, rfl, rfl⟩
  | ciaCallRead c o =>
    simp only [hostAccess]
    split
    · exact runWord_completes (cpuWord_hc ..) s
    · exact ⟨_, rfl, rfl⟩
  | ciaCallWrite c o d =>
    simp only [hostAccess]
    split
    · exact runWord_completes (cpuWord_hc ..) s
    · exact ⟨_, rfl, rfl⟩

theorem hostCpuPhi2_completes (s : State) : ∃ t, hostCpuPhi2 exec s = .next t ∧ t.clock = s.clock := by
  unfold hostCpuPhi2
  split
  · exact ⟨_, rfl, rfl⟩
  · split
    · exact hostAccess_completes _ { s with hostQueue := _ }
    · exact ⟨_, rfl, rfl⟩

theorem driveAccess_completes (a : DriveAccess) (s : State) : ∃ t, driveAccess exec a s = .next t ∧ t.clock = s.clock := by
  cases a with
  | idle => exact ⟨_, rfl, rfl⟩
  | read addr =>
    simp only [driveAccess]
    split
    · exact runWord_completes (cpuWord_dv ..) s
    · exact ⟨_, rfl, rfl⟩
  | write addr d =>
    simp only [driveAccess]
    split
    · exact runWord_completes (cpuWord_dv ..) s
    · exact ⟨_, rfl, rfl⟩

theorem driveCpuCycle_completes (s : State) : ∃ t, driveCpuCycle exec s = .next t ∧ t.clock = s.clock := by
  unfold driveCpuCycle
  split
  · exact ⟨_, rfl, rfl⟩
  · exact driveAccess_completes _ { s with driveQueue := _ }

/-! ### The words that addresses name (R203, R205, R301-R303) -/

theorem field_ofNat {w n lo : Nat} (h : lo + n ≤ w) (m : Nat) : field (BitVec.ofNat w m) lo n = BitVec.ofNat n (m / 2 ^ lo) := by
  refine BitVec.eq_of_getLsbD_eq fun k hk => ?_
  have hw : lo + k < w := by omega
  rw [field, BitVec.getLsbD_extractLsb', BitVec.getLsbD_ofNat, BitVec.getLsbD_ofNat, Nat.testBit_div_two_pow]
  simp [hk, hw, Nat.add_comm]

theorem ofNat_eq_ofNat {w m n : Nat} (h : m % 2 ^ w = n % 2 ^ w) : BitVec.ofNat w m = BitVec.ofNat w n :=
  BitVec.eq_of_toNat_eq (by simpa using h)

theorem hvWord_eq (read : Bool) (a : Nat) (ha : a < 64) (d : Byte) :
    hvWord read (BitVec.ofNat 6 a) d = ⟨.hv, BitVec.ofNat 8 ((if read then 64 else 0) + a), d⟩ := by
  interval_cases a <;> cases read <;> rfl

/-- A chip of each kind by its number: bit 4 of its words (R302, R303). -/
def ciaOf (c : Nat) : CiaId := if c = 0 then .cia1 else .cia2
def viaOf (v : Nat) : ViaId := if v = 0 then .via1 else .via2

theorem hcWord_eq (read : Bool) (c a : Nat) (hc : c < 2) (ha : a < 16) (d : Byte) :
    hcWord read (ciaOf c) (BitVec.ofNat 4 a) d = ⟨.hc, BitVec.ofNat 8 ((if read then 32 else 0) + 16 * c + a), d⟩ := by
  interval_cases a <;> cases read <;> interval_cases c <;> rfl

theorem dvWord_eq (read : Bool) (v a : Nat) (hv : v < 2) (ha : a < 16) (d : Byte) :
    dvWord read (viaOf v) (BitVec.ofNat 4 a) d = ⟨.dv, BitVec.ofNat 8 ((if read then 32 else 0) + 16 * v + a), d⟩ := by
  interval_cases a <;> cases read <;> interval_cases v <;> rfl

/-- R203: the VIC's page. -/
theorem ioTarget_vic (read : Bool) (d : Byte) {m a : Nat} (hm : m < 16) (ha : a < 64) :
    ioTarget read (BitVec.ofNat 16 (0xd000 + 64 * m + a)) d = .chip ⟨.hv, BitVec.ofNat 8 ((if read then 64 else 0) + a), d⟩ := by
  have hoffset : field (BitVec.ofNat 16 (0xd000 + 64 * m + a)) 0 6 = BitVec.ofNat 6 a := by
    rw [field_ofNat (by decide)]
    exact ofNat_eq_ofNat (by omega)
  have hpage : (field (BitVec.ofNat 16 (0xd000 + 64 * m + a)) 8 4).toNat < 4 := by
    rw [field_ofNat (by decide), BitVec.toNat_ofNat]
    omega
  unfold ioTarget
  rw [hoffset, hvWord_eq _ _ ha]
  generalize (field (BitVec.ofNat 16 (0xd000 + 64 * m + a)) 8 4).toNat = page at hpage
  interval_cases page <;> rfl

/-- R203, which the spec marks as its decision D29: the CIAs' pages. -/
theorem ioTarget_cia (read : Bool) (d : Byte) {c m a : Nat} (hc : c < 2) (hm : m < 16) (ha : a < 16) :
    ioTarget read (BitVec.ofNat 16 (0xdc00 + 256 * c + 16 * m + a)) d =
      .chip ⟨.hc, BitVec.ofNat 8 ((if read then 32 else 0) + 16 * c + a), d⟩ := by
  have hoffset : field (BitVec.ofNat 16 (0xdc00 + 256 * c + 16 * m + a)) 0 4 = BitVec.ofNat 4 a := by
    rw [field_ofNat (by decide)]
    exact ofNat_eq_ofNat (by omega)
  have hpage : (field (BitVec.ofNat 16 (0xdc00 + 256 * c + 16 * m + a)) 8 4).toNat = 12 + c := by
    rw [field_ofNat (by decide), BitVec.toNat_ofNat]
    omega
  rw [← hcWord_eq read c a hc ha]
  unfold ioTarget
  rw [hpage, hoffset]
  interval_cases c <;> rfl

/-- R205: the VIAs' pages of the drive. -/
theorem driveTarget_via {v m a : Nat} (hv : v < 2) (hm : m < 64) (ha : a < 16) :
    driveTarget (BitVec.ofNat 16 (0x1800 + 1024 * v + 16 * m + a)) = some (viaOf v) := by
  have hpage : field (BitVec.ofNat 16 (0x1800 + 1024 * v + 16 * m + a)) 10 6 = BitVec.ofNat 6 (6 + v) := by
    rw [field_ofNat (by decide)]
    exact ofNat_eq_ofNat (by omega)
  unfold driveTarget
  rw [hpage]
  interval_cases v <;> rfl

theorem field_via_offset (v m a : Nat) :
    field (BitVec.ofNat 16 (0x1800 + 1024 * v + 16 * m + a)) 0 4 = BitVec.ofNat 4 a := by
  rw [field_ofNat (by decide)]
  exact ofNat_eq_ofNat (by omega)

section
variable {s : State} {i : Instr} {addr : BitVec 16} {b : BusWord} {d : Byte}

/-- An access to a chip runs the operation of its word. -/
theorem hostAccess_ioRead (ht : ioTarget true addr 0 = .chip b) (hi : decode b = .ok i) : hostAccess exec (.ioRead addr) s = exec i s := by
  simp only [hostAccess, ht]
  exact runWord_of_decode hi

theorem hostAccess_ioWrite (ht : ioTarget false addr d = .chip b) (hi : decode b = .ok i) :
    hostAccess exec (.ioWrite addr d) s = exec i s := by
  simp only [hostAccess, ht]
  exact runWord_of_decode hi

theorem driveAccess_read {v : ViaId} (ht : driveTarget addr = some v) (hi : decode (dvWord true v (field addr 0 4) 0) = .ok i) :
    driveAccess exec (.read addr) s = exec i s := by
  simp only [driveAccess, ht]
  exact runWord_of_decode hi

theorem driveAccess_write {v : ViaId} (ht : driveTarget addr = some v) (hi : decode (dvWord false v (field addr 0 4) d) = .ok i) :
    driveAccess exec (.write addr d) s = exec i s := by
  simp only [driveAccess, ht]
  exact runWord_of_decode hi

end

/-! ### The accesses that present a word (notes/assumptions/1.md) -/

theorem ioTarget_presents_hv (w d : Byte) (hw : w.toNat < 2 ^ Port.hv.width) :
    ioTarget (bit w 6) (0xd000 ||| (field w 0 6).setWidth 16) d = .chip ⟨.hv, w, d⟩ := by
  have haddr : ∀ w : Byte, (0xd000 : BitVec 16) ||| (field w 0 6).setWidth 16 = BitVec.ofNat 16 (0xd000 + 64 * 0 + w.toNat % 64) := by decide
  have hword : ∀ w : Byte, w.toNat < 2 ^ Port.hv.width → BitVec.ofNat 8 ((if bit w 6 then 64 else 0) + w.toNat % 64) = w := by decide
  rw [haddr, ioTarget_vic _ d (by decide) (Nat.mod_lt _ (by decide)), hword w hw]

theorem ioTarget_presents_hc (w d : Byte) (hw : w.toNat < 2 ^ Port.hc.width) :
    ioTarget (bit w 5) ((if bit w 4 then 0xdd00 else 0xdc00) ||| (field w 0 4).setWidth 16) d = .chip ⟨.hc, w, d⟩ := by
  have haddr : ∀ w : Byte, (if bit w 4 then (0xdd00 : BitVec 16) else 0xdc00) ||| (field w 0 4).setWidth 16 =
      BitVec.ofNat 16 (0xdc00 + 256 * (w.toNat / 16 % 2) + 16 * 0 + w.toNat % 16) := by decide
  have hword : ∀ w : Byte, w.toNat < 2 ^ Port.hc.width →
      BitVec.ofNat 8 ((if bit w 5 then 32 else 0) + 16 * (w.toNat / 16 % 2) + w.toNat % 16) = w := by decide
  rw [haddr, ioTarget_cia _ d (Nat.mod_lt _ (by decide)) (by decide) (Nat.mod_lt _ (by decide)), hword w hw]

theorem driveTarget_presents_dv (w : Byte) (d : Byte) (hw : w.toNat < 2 ^ Port.dv.width) : ∃ v,
    driveTarget ((if bit w 4 then 0x1c00 else 0x1800) ||| (field w 0 4).setWidth 16) = some v ∧
    dvWord (bit w 5) v (field ((if bit w 4 then 0x1c00 else 0x1800) ||| (field w 0 4).setWidth 16 : BitVec 16) 0 4) d = ⟨.dv, w, d⟩ := by
  have haddr : ∀ w : Byte, (if bit w 4 then (0x1c00 : BitVec 16) else 0x1800) ||| (field w 0 4).setWidth 16 =
      BitVec.ofNat 16 (0x1800 + 1024 * (w.toNat / 16 % 2) + 16 * 0 + w.toNat % 16) := by decide
  have hword : ∀ w : Byte, w.toNat < 2 ^ Port.dv.width →
      BitVec.ofNat 8 ((if bit w 5 then 32 else 0) + 16 * (w.toNat / 16 % 2) + w.toNat % 16) = w := by decide
  refine ⟨viaOf (w.toNat / 16 % 2), ?_, ?_⟩
  · rw [haddr, driveTarget_via (Nat.mod_lt _ (by decide)) (by decide) (Nat.mod_lt _ (by decide))]
  · rw [haddr, field_via_offset, dvWord_eq _ _ _ (Nat.mod_lt _ (by decide)) (Nat.mod_lt _ (by decide)), hword w hw]

/-- A word that decodes, decodes without the data byte that a read does not carry. -/
theorem decode_without_data {b : BusWord} {i : Instr} (hi : decode b = .ok i) (hc : carriesData b = false) :
    decode { b with data := 0 } = .ok i := by
  obtain ⟨hwf, he⟩ := (Proofs.encodeDecode b).1 i hi
  rw [hc, if_neg Bool.false_ne_true] at he
  exact he ▸ Proofs.decodeEncode i hwf

/-- The access that presents a word of the host CPU runs its operation. -/
theorem hostAccess_presents {b : BusWord} {i : Instr} (hp : b.port = .hv ∨ b.port = .hc) (hi : decode b = .ok i) (s : State) :
    hostAccess exec (hostAccessOf b) s = exec i s := by
  obtain ⟨hfit, -⟩ := (Proofs.encodeDecode b).2.mp ⟨i, hi⟩
  obtain ⟨p, w, d⟩ := b
  rcases hp with rfl | rfl
  · have ht := fun d => ioTarget_presents_hv w d hfit
    unfold hostAccessOf
    cases hread : bit w 6 <;> rw [hread] at ht
    · exact hostAccess_ioWrite (ht d) hi
    · exact hostAccess_ioRead (ht 0) (decode_without_data hi (by rw [carriesData, hread]; rfl))
  · have ht := fun d => ioTarget_presents_hc w d hfit
    unfold hostAccessOf
    cases hread : bit w 5 <;> rw [hread] at ht
    · exact hostAccess_ioWrite (ht d) hi
    · exact hostAccess_ioRead (ht 0) (decode_without_data hi (by rw [carriesData, hread]; rfl))

/-- The access that presents a word of the drive CPU runs its operation. -/
theorem driveAccess_presents {b : BusWord} {i : Instr} (hp : b.port = .dv) (hi : decode b = .ok i) (s : State) :
    driveAccess exec (driveAccessOf b) s = exec i s := by
  obtain ⟨hfit, -⟩ := (Proofs.encodeDecode b).2.mp ⟨i, hi⟩
  obtain ⟨p, w, d⟩ := b
  obtain rfl := hp
  unfold driveAccessOf
  cases hread : bit w 5
  · obtain ⟨v, ht, hword⟩ := driveTarget_presents_dv w d hfit
    rw [hread] at hword
    refine driveAccess_write ht ?_
    rw [hword]
    exact hi
  · obtain ⟨v, ht, hword⟩ := driveTarget_presents_dv w 0 hfit
    rw [hread] at hword
    refine driveAccess_read ht ?_
    rw [hword]
    exact decode_without_data hi (by rw [carriesData, hread]; rfl)

/-! ### The rows of a line (R701, R702) -/

theorem inRange_of_row {cfg : Config} {table : Nat → Option CycleRow} {c : Nat} {row : CycleRow} (h : cycleRow? cfg = some table)
    (hr : table c = some row) : 1 ≤ c ∧ c ≤ cyclesPerLine cfg := by
  unfold cycleRow? cyclesPerLine at *
  cases hv : cfg.vicRevision <;> simp only [hv] at h ⊢
  · obtain rfl := Option.some.inj h
    unfold palRow? at hr
    split at hr
    · assumption
    · cases hr
  · split at h
    · cases h
    · split at h
      · rename_i t _ ha
        obtain rfl := Option.some.inj h
        have hl : t.rows.length = 65 := by simp [ntscAgrees] at ha; exact ha.1
        dsimp only at hr
        split at hr
        · cases hr
        · obtain ⟨hlt, -⟩ := List.getElem?_eq_some_iff.mp hr
          omega
      · cases h

/-- R400: a cycle of the line is run with its row. -/
theorem cycleWith_of_row {s : State} {row : CycleRow} (h : s.row? = some row) (ex : Meaning) :
    cycleWith ex s = andThen (vicStep ex row s) (afterVic ex) := by
  obtain ⟨table, ht, hr⟩ := Option.bind_eq_some_iff.mp h
  unfold cycleWith
  rw [ht]
  dsimp only
  rw [checkRasterCycle_inRange (inRange_of_row ht hr), entryOr, hr]
  rfl

end Sys2Proof.Machine

namespace Sys2Proof.Proofs

open Sys2Proof Sys2Proof.Machine

/-- Settles O36: an address names the word of its register, and a word that decodes runs its operation. -/
theorem addressDecode : Obligations.AddressDecode := by
  intro s d
  refine ⟨fun m a hm ha i => ⟨fun hi => ?_, fun hi => ?_⟩, fun c m a hc hm ha i => ⟨fun hi => ?_, fun hi => ?_⟩,
    fun v m a hv hm ha i => ⟨fun hi => ?_, fun hi => ?_⟩⟩
  · exact hostAccess_ioRead (ioTarget_vic true 0 hm ha) hi
  · refine hostAccess_ioWrite (ioTarget_vic false d hm ha) ?_
    rwa [if_neg Bool.false_ne_true, Nat.zero_add]
  · exact hostAccess_ioRead (ioTarget_cia true 0 hc hm ha) hi
  · refine hostAccess_ioWrite (ioTarget_cia false d hc hm ha) ?_
    rwa [if_neg Bool.false_ne_true, Nat.zero_add]
  · refine driveAccess_read (driveTarget_via hv hm ha) ?_
    rwa [field_via_offset v m a, dvWord_eq true v a hv ha]
  · refine driveAccess_write (driveTarget_via hv hm ha) ?_
    rwa [field_via_offset v m a, dvWord_eq false v a hv ha, if_neg Bool.false_ne_true, Nat.zero_add]

/-- Settles O37: the CPUs' accesses by the words they present, the rest by the definition of a cycle and its row. -/
theorem stepRunsDecodedOperation : Obligations.StepRunsDecodedOperation := by
  intro s
  refine ⟨fun b i rest hp hi hq hrun => ?host, fun b i rest hp hi hq => ?drive, fun row i hi => runWord_of_decode hi,
    fun row w i hw hi => ?phi2, fun row => rfl, rfl, fun row hrow => cycleWith_of_row hrow exec, rfl⟩
  case host =>
    simp only [hostCpuPhi2, hq, hrun, if_true]
    exact hostAccess_presents hp hi _
  case drive =>
    simp only [driveCpuCycle, hq]
    exact driveAccess_presents hp hi _
  case phi2 =>
    simp only [vicPhi2, hw]
    exact runWord_of_decode hi

end Sys2Proof.Proofs
end

section
/-!
PROOFS. The clock: what a cycle adds to the position, the counters and the drive's time (O39, O45, O46), and which cycles run to their end
(O38).
-/

namespace Sys2Proof.Machine

variable {s t : State}

/-! ### The position in the frame (R11, R403) -/

namespace Clock

/-- `positionInRange` of the clock. -/
def InRange (k : Clock) : Prop :=
  1 ≤ k.rasterCycle ∧ k.rasterCycle ≤ cyclesPerLine k.cfg ∧ k.yCounter.toNat < linesPerFrame k.cfg

/-- `framePosition` of the clock. -/
def position (k : Clock) : Nat := k.yCounter.toNat * cyclesPerLine k.cfg + (k.rasterCycle - 1)

/-- What the end of a cycle does to the clock. -/
def ended (k : Clock) : Clock :=
  let k := { k with cycle := k.cycle + 1 }
  if k.rasterCycle < cyclesPerLine k.cfg then { k with rasterCycle := k.rasterCycle + 1 }
  else if k.yCounter.toNat < linesPerFrame k.cfg - 1 then { k with rasterCycle := 1, yCounter := k.yCounter + 1 }
  else { k with rasterCycle := 1, yCounter := 0, frame := k.frame + 1 }

variable {k : Clock}

theorem ended_eq_of_line (h : k.rasterCycle < cyclesPerLine k.cfg) :
    k.ended = { k with cycle := k.cycle + 1, rasterCycle := k.rasterCycle + 1 } := if_pos h

theorem ended_eq_of_frame (h : ¬ k.rasterCycle < cyclesPerLine k.cfg) (hy : k.yCounter.toNat < linesPerFrame k.cfg - 1) :
    k.ended = { k with cycle := k.cycle + 1, rasterCycle := 1, yCounter := k.yCounter + 1 } := (if_neg h).trans (if_pos hy)

theorem ended_eq_of_last (h : ¬ k.rasterCycle < cyclesPerLine k.cfg) (hy : ¬ k.yCounter.toNat < linesPerFrame k.cfg - 1) :
    k.ended = { k with cycle := k.cycle + 1, rasterCycle := 1, yCounter := 0, frame := k.frame + 1 } := (if_neg h).trans (if_neg hy)

theorem cyclesPerLine_pos (cfg : Config) : 0 < cyclesPerLine cfg := by unfold cyclesPerLine; split <;> decide

theorem linesPerFrame_range (cfg : Config) : 1 ≤ linesPerFrame cfg ∧ linesPerFrame cfg ≤ 312 := by unfold linesPerFrame; split <;> decide

theorem next_line (cfg : Config) {y : BitVec 32} (hy : y.toNat < linesPerFrame cfg - 1) : (y + 1).toNat = y.toNat + 1 := by
  have := linesPerFrame_range cfg
  rw [BitVec.toNat_add]
  exact Nat.mod_eq_of_lt (by simp; omega)

/-- One cycle later: within the frame, or at its start with one frame more. -/
theorem ended_advances (h : k.InRange) : k.ended.InRange ∧
    (k.position + 1 < cyclesPerFrame k.cfg ∧ k.ended.position = k.position + 1 ∧ k.ended.frame = k.frame ∨
      k.position + 1 = cyclesPerFrame k.cfg ∧ k.ended.position = 0 ∧ k.ended.frame = k.frame + 1) := by
  obtain ⟨hlo, hhi, hy⟩ := h
  have hlines := linesPerFrame_range k.cfg
  have hmul : (k.yCounter.toNat + 1) * cyclesPerLine k.cfg ≤ cyclesPerLine k.cfg * linesPerFrame k.cfg := by
    rw [Nat.mul_comm]; exact Nat.mul_le_mul_left _ hy
  by_cases hc : k.rasterCycle < cyclesPerLine k.cfg
  · rw [ended_eq_of_line hc]
    refine ⟨⟨Nat.le_add_left .., hc, hy⟩, .inl ⟨?_, ?_, rfl⟩⟩
    · unfold position cyclesPerFrame
      rw [Nat.add_mul] at hmul
      omega
    · unfold position
      dsimp only
      omega
  · by_cases hl : k.yCounter.toNat < linesPerFrame k.cfg - 1
    · rw [ended_eq_of_frame hc hl]
      refine ⟨⟨Nat.le_refl 1, cyclesPerLine_pos _, ?_⟩, .inl ⟨?_, ?_, rfl⟩⟩
      · dsimp only
        rw [next_line k.cfg hl]
        omega
      · have hlt : (k.yCounter.toNat + 1 + 1) * cyclesPerLine k.cfg ≤ cyclesPerLine k.cfg * linesPerFrame k.cfg := by
          rw [Nat.mul_comm]; exact Nat.mul_le_mul_left _ (by omega)
        have := cyclesPerLine_pos k.cfg
        unfold position cyclesPerFrame
        rw [Nat.add_mul, Nat.add_mul] at hlt
        omega
      · unfold position
        dsimp only
        rw [next_line k.cfg hl, Nat.add_mul]
        omega
    · rw [ended_eq_of_last hc hl]
      refine ⟨⟨Nat.le_refl 1, cyclesPerLine_pos _, hlines.1⟩, .inr ⟨?_, by simp [position], rfl⟩⟩
      have hlast : linesPerFrame k.cfg = k.yCounter.toNat + 1 := by omega
      unfold position cyclesPerFrame
      rw [hlast, Nat.mul_add, Nat.mul_comm]
      omega

theorem ended_cfg : k.ended.cfg = k.cfg := by unfold ended; dsimp only; split <;> [rfl; split <;> rfl]
theorem ended_hostOps : k.ended.hostOps = k.hostOps := by unfold ended; dsimp only; split <;> [rfl; split <;> rfl]
theorem ended_cycle : k.ended.cycle = k.cycle + 1 := by unfold ended; dsimp only; split <;> [rfl; split <;> rfl]
theorem ended_driveTimeAcc : k.ended.driveTimeAcc = k.driveTimeAcc := by unfold ended; dsimp only; split <;> [rfl; split <;> rfl]

theorem ended_position (h : k.InRange) : k.ended.position = (k.position + 1) % cyclesPerFrame k.cfg := by
  obtain ⟨-, ⟨hlt, hp, -⟩ | ⟨he, hp, -⟩⟩ := ended_advances h
  · rw [hp, Nat.mod_eq_of_lt hlt]
  · rw [hp, he, Nat.mod_self]

theorem ended_frame (h : k.InRange) : k.ended.frame = k.frame + BitVec.ofNat 64 ((k.position + 1) / cyclesPerFrame k.cfg) := by
  obtain ⟨-, ⟨hlt, -, hf⟩ | ⟨he, -, hf⟩⟩ := ended_advances h
  · rw [hf, Nat.div_eq_of_lt hlt]
    exact (BitVec.add_zero _).symm
  · rw [hf, he, Nat.div_self (by omega)]
    rfl

theorem position_lt (h : k.InRange) : k.position < cyclesPerFrame k.cfg := by
  obtain ⟨-, ⟨hlt, -⟩ | ⟨he, -⟩⟩ := ended_advances h <;> omega

end Clock

theorem endCycle_clock (s : State) : s.endCycle.clock = s.clock.ended := by
  unfold State.endCycle State.advanceRasterPosition
  dsimp only
  by_cases hc : s.vic.rasterCycle < cyclesPerLine s.cfg
  · rw [if_pos hc, Clock.ended_eq_of_line (k := s.clock) hc]
    rfl
  · rw [if_neg hc]
    by_cases hl : s.vic.yCounter.toNat < linesPerFrame s.cfg - 1
    · rw [if_pos hl, Clock.ended_eq_of_frame (k := s.clock) hc hl]
      rfl
    · rw [if_neg hl, Clock.ended_eq_of_last (k := s.clock) hc hl]
      rfl

/-! ### What leaves the clock -/

/-- R102: in range, the check of the line leaves the clock. -/
theorem checkVic_clock (h : s.vic.yCounter.toNat < linesPerFrame s.cfg) : s.checkVic.clock = s.clock := by
  refine recover_keeps (P := fun t => t.clock = s.clock) rfl fun _ => ?_
  have hy : BitVec.ofNat 32 (clamp 0 (linesPerFrame s.cfg - 1) s.vic.yCounter.toNat) = s.vic.yCounter := by
    rw [clamp, Nat.zero_max, Nat.min_eq_left (by omega), BitVec.ofNat_toNat, BitVec.setWidth_eq]
  change ({ s.clock with yCounter := BitVec.ofNat 32 (clamp 0 (linesPerFrame s.cfg - 1) s.vic.yCounter.toNat) } : Clock) = s.clock
  rw [hy]
  rfl

theorem clock_eq_of_held {v : Vic} (h : v.held = s.vic.held) : ({ s with vic := v } : State).clock = s.clock := by
  obtain ⟨-, hc, hy⟩ := Prod.mk.inj h |>.imp id Prod.mk.inj
  unfold State.clock
  dsimp only
  rw [hc, hy]

theorem vicBeforeAccess_clock (s : State) (row : CycleRow) : (s.vicBeforeAccess row).clock = s.checkVic.clock := by
  have hv := (vicBeforeAccess_works s row).held
  obtain ⟨v, b, ms, d, hf⟩ := vicBeforeAccess_irq s row
  obtain ⟨w, ms', d', hw⟩ := checkVic_frame s
  rw [hf, hw] at hv ⊢
  exact clock_eq_of_held (s := { s with vic := w }) hv

theorem vicAfterAccess_clock (s : State) : s.vicAfterAccess.clock = s.clock := by
  unfold State.vicAfterAccess
  split <;> rfl

theorem runWord_clock {b : BusWord} (h : runWord exec b s = .next t) : t.clock = s.clock := by
  obtain ⟨i, -, hi⟩ := runWord_next h
  exact exec_clock hi

theorem vicPhi2_clock {row : CycleRow} (h : vicPhi2 exec row s = .next t) : t.clock = s.clock := by
  unfold vicPhi2 at h
  split at h
  · exact runWord_clock h
  · exact next_injective h ▸ rfl

theorem vicStep_clock {row : CycleRow} (h : vicStep exec row s = .next t) : t.clock = s.checkVic.clock := by
  obtain ⟨m, hm, h⟩ := andThen_eq_next.mp h
  obtain ⟨m', hm', h⟩ := andThen_eq_next.mp h
  calc t.clock = m'.clock := next_injective h ▸ vicAfterAccess_clock m'
    _ = m.clock := vicPhi2_clock hm'
    _ = (s.vicBeforeAccess row).clock := runWord_clock hm
    _ = s.checkVic.clock := vicBeforeAccess_clock s row

theorem ciaTick_clock (s : State) (c : CiaId) : (s.ciaTick c).clock = s.clock := by
  obtain ⟨_, _, _, _, hf⟩ := ciaTick_drive s c
  rw [hf]
  cases c <;> rfl

theorem iecStep_clock (s : State) : s.iecStep.clock = s.clock := by rw [iecStep_frame]; rfl

theorem chipTicks_clock (s : State) : s.chipTicks.clock = s.clock :=
  (iecStep_clock _).trans ((ciaTick_clock _ .cia2).trans (ciaTick_clock s .cia1))

theorem viaTick_clock (s : State) (v : ViaId) : (s.viaTick v).clock = s.clock := by
  obtain ⟨_, _, _, _, _, _, _, _, hf⟩ := viaTick_frame s v
  rw [hf]
  rfl

theorem diskAdvance_clock (s : State) : s.diskAdvance.clock = s.clock := by
  obtain ⟨_, _, _, _, _, _, hf⟩ := diskAdvance_frame s
  rw [hf]
  rfl

/-! ### Host operations -/

/-- What a host operation can do to the clock: a reset of the drive clears its time, one of the host returns to the first cycle of a frame,
and only `configure` changes the parameters. -/
structure HostOpClock (op : HostOp) (s t : State) : Prop where
  time : t.driveTimeAcc = s.driveTimeAcc ∨ t.driveTimeAcc = 0
  position : op.isConfigure = false → t.cfg = s.cfg ∧
    (t.vic.rasterCycle = s.vic.rasterCycle ∧ t.vic.yCounter = s.vic.yCounter ∨ t.vic.rasterCycle = 1 ∧ t.vic.yCounter = 0)

theorem HostOpClock.of_clock {op : HostOp} (h : t.clock = s.clock) : HostOpClock op s t where
  time := .inl (congrArg Clock.driveTimeAcc h)
  position _ := ⟨congrArg Clock.cfg h, .inl ⟨congrArg Clock.rasterCycle h, congrArg Clock.yCounter h⟩⟩

theorem setLightPen_clock (s : State) (level : Bool) : (s.setLightPen level).clock = s.clock := by
  unfold State.setLightPen
  dsimp only
  split <;> rfl

theorem setCia_clock (s : State) (c : CiaId) (x : Cia) : (s.setCia c x).clock = s.clock := by cases c <;> rfl

theorem setViaFields_clock (s : State) (v : ViaId) (x : Via) : (s.setViaFields v x).clock = s.clock := by cases v <;> rfl

theorem applyHostOp_clock (op : HostOp) (h : applyHostOp op s = .next t) : HostOpClock op s t := by
  cases op with
  | configure r =>
    obtain ⟨_, _, hf⟩ := configure_frame s r
    exact of_next (hf ▸ ⟨.inl rfl, nofun⟩) h
  | powerOn =>
    obtain ⟨_, _, _, -, -, hf⟩ := resetDrive_frame s.resetHost
    refine of_next (P := HostOpClock _ s) ?_ h
    unfold State.powerUp
    rw [hf]
    exact ⟨.inr rfl, fun _ => ⟨rfl, .inr ⟨rfl, rfl⟩⟩⟩
  | resetHost => exact of_next (P := HostOpClock .resetHost s) (u := s.resetHost) ⟨.inl rfl, fun _ => ⟨rfl, .inr ⟨rfl, rfl⟩⟩⟩ h
  | resetDrive =>
    obtain ⟨_, _, _, -, -, hf⟩ := resetDrive_frame s
    exact of_next (hf ▸ ⟨.inr rfl, fun _ => ⟨rfl, .inl ⟨rfl, rfl⟩⟩⟩) h
  | insertDisk image =>
    obtain ⟨_, _, _, _, _, _, rfl⟩ := insertDisk_frame h
    exact .of_clock rfl
  | setCiaPins c port levels => cases port <;> exact of_next (.of_clock (setCia_clock s c _)) h
  | setViaPins v port levels => cases port <;> exact of_next (.of_clock (setViaFields_clock s v _)) h
  | setCnt c level => exact of_next (.of_clock (setCia_clock s c _)) h
  | setFlag c level => exact of_next (.of_clock (setCia_clock s c _)) h
  | setSp c level => exact of_next (.of_clock (setCia_clock s c _)) h
  | setLightPen level => exact of_next (.of_clock (setLightPen_clock s level)) h
  | assertUltimax => cases h
  | ejectDisk | setControlPins | pullNmiRestore | releaseNmiRestore | suspend | resume | readFrame | warpMode | saveSnapshot =>
    obtain rfl := next_injective h
    exact .of_clock rfl

/-! ### The drive's time (R420) -/

theorem driveCycle_completes (s : State) : ∃ t, driveCycle exec s = .next t ∧ t.clock = s.clock := by
  obtain ⟨t, ht, hc⟩ := driveCpuCycle_completes ((s.diskAdvance.viaTick .via1).viaTick .via2)
  exact ⟨t, ht, hc.trans ((viaTick_clock _ .via2).trans ((viaTick_clock _ .via1).trans (diskAdvance_clock s)))⟩

theorem driveLoop_completes (n : Nat) : ∀ s, ∃ t, driveLoop exec n s = .next t ∧
    t.clock = { s.clock with driveTimeAcc := s.driveTimeAcc - BitVec.ofNat 64 n * driveCyclePs } := by
  induction n with
  | zero => exact fun s => ⟨s, rfl, by simp [State.clock]⟩
  | succ n ih =>
    intro s
    obtain ⟨m, hm, hc⟩ := driveCycle_completes s
    obtain ⟨t, ht, hct⟩ := ih { m with driveTimeAcc := m.driveTimeAcc - driveCyclePs }
    have hacc : m.driveTimeAcc = s.driveTimeAcc := congrArg Clock.driveTimeAcc hc
    refine ⟨t, by rw [driveLoop, hm]; exact ht, hct.trans ?_⟩
    change ({ m.clock with driveTimeAcc := _ } : Clock) = _
    have hleft : m.driveTimeAcc - driveCyclePs - BitVec.ofNat 64 n * driveCyclePs =
        s.driveTimeAcc - BitVec.ofNat 64 (n + 1) * driveCyclePs := by
      have hn : BitVec.ofNat 64 (n + 1) = BitVec.ofNat 64 n + 1 := BitVec.ofNat_add n 1
      rw [hacc, hn]
      ring
    rw [hc, hleft]

/-- The drive's time after a cycle. -/
def State.timeLeft (s : State) : BitVec 64 :=
  if s.cfg.driveConnected then
    s.driveTimeAcc + hostCyclePs s.cfg - BitVec.ofNat 64 (driveCycles (s.driveTimeAcc + hostCyclePs s.cfg)) * driveCyclePs
  else s.driveTimeAcc

theorem driveAdvance_completes (s : State) : ∃ t, (if s.cfg.driveConnected then driveAdvance exec s else .next s) = .next t ∧
    t.clock = { s.clock with driveTimeAcc := s.timeLeft } := by
  unfold State.timeLeft
  cases s.cfg.driveConnected
  · exact ⟨s, rfl, rfl⟩
  · exact driveLoop_completes _ { s with driveTimeAcc := s.driveTimeAcc + hostCyclePs s.cfg }

/-- After the VIC's step a cycle runs to its end, whatever the CPUs present. -/
theorem afterVic_completes (s : State) : ∃ t, afterVic exec s = .next t ∧
    t.clock = ({ s.clock with driveTimeAcc := s.timeLeft } : Clock).ended := by
  obtain ⟨m, hm, hc⟩ := hostCpuPhi2_completes s.chipTicks
  obtain ⟨m', hm', hc'⟩ := driveAdvance_completes m
  refine ⟨m'.endCycle, ?_, ?_⟩
  · rw [afterVic, hm, andThen_next, hm', andThen_next]
  · have hclock : m.clock = s.clock := hc.trans (chipTicks_clock s)
    have hcfg : m.cfg = s.cfg := congrArg Clock.cfg hclock
    have hacc : m.driveTimeAcc = s.driveTimeAcc := congrArg Clock.driveTimeAcc hclock
    rw [endCycle_clock, hc', hclock, State.timeLeft, hcfg, hacc]
    rfl

/-- R420: the time left is less than a drive cycle. -/
theorem timeLeft_range {acc : BitVec 64} (cfg : Config) (h : 0 ≤ acc.toInt ∧ acc.toInt < driveCyclePs.toInt) :
    let a := acc + hostCyclePs cfg
    let left := a - BitVec.ofNat 64 (driveCycles a) * driveCyclePs
    0 ≤ left.toInt ∧ left.toInt < driveCyclePs.toInt := by
  have hps : driveCyclePs.toInt = 1000000 := by decide
  have hhost : (hostCyclePs cfg).toNat = 1014973 ∨ (hostCyclePs cfg).toNat = 977778 := by unfold hostCyclePs; split <;> decide
  intro a left
  have hacc : acc.toNat < 1000000 := by rw [hps, BitVec.toInt_eq_toNat_cond] at h; omega
  have ha : a.toNat = acc.toNat + (hostCyclePs cfg).toNat := by
    rw [BitVec.toNat_add]; exact Nat.mod_eq_of_lt (by omega)
  have hai : a.toInt = a.toNat := by rw [BitVec.toInt_eq_toNat_cond, if_pos (by omega)]
  have hn : driveCycles a = a.toNat / 1000000 := by rw [driveCycles, hai, hps]; omega
  have hpn : driveCyclePs.toNat = 1000000 := by decide
  have hmul : (BitVec.ofNat 64 (driveCycles a) * driveCyclePs).toNat = a.toNat / 1000000 * 1000000 := by
    rw [BitVec.toNat_mul, BitVec.toNat_ofNat, hn, hpn]
    omega
  have hleft : left.toNat = a.toNat % 1000000 := by
    rw [BitVec.toNat_sub_of_le (BitVec.le_def.mpr (by omega)), hmul]
    omega
  rw [hps, BitVec.toInt_eq_toNat_cond, if_pos (by omega)]
  omega

theorem driveTime_cycle (hs : s.DriveTimeInv) (h : cycleWith exec s = .next t) : t.DriveTimeInv := by
  unfold cycleWith at h
  split at h
  · cases h
  · obtain ⟨m, hm, h⟩ := andThen_eq_next.mp h
    obtain ⟨u, hu, hc⟩ := afterVic_completes m
    obtain rfl := next_injective (hu.symm.trans h)
    have hm := vicStep_clock hm
    obtain ⟨v, ms, d, hv⟩ := checkVic_frame s.checkRasterCycle
    obtain ⟨w, ms', d', hw⟩ := checkRasterCycle_frame s
    rw [hv, hw] at hm
    have hacc : m.driveTimeAcc = s.driveTimeAcc := congrArg Clock.driveTimeAcc hm
    have ht : u.driveTimeAcc = m.timeLeft := (congrArg Clock.driveTimeAcc hc).trans Clock.ended_driveTimeAcc
    unfold State.DriveTimeInv
    rw [ht, State.timeLeft, hacc]
    split
    · exact timeLeft_range _ hs
    · exact hs

theorem driveTime_applyHostOp (op : HostOp) (hs : s.DriveTimeInv) (h : applyHostOp op s = .next t) : t.DriveTimeInv := by
  unfold State.DriveTimeInv
  rcases (applyHostOp_clock op h).time with ht | ht <;> rw [ht]
  · exact hs
  · decide

theorem driveTime_step (hs : s.DriveTimeInv) (h : step s = .next t) : t.DriveTimeInv := by
  obtain ⟨m, hm, h⟩ := step_parts h
  exact driveTime_cycle (applyDue_keeps (Q := fun _ => True) (fun op _ _ _ => driveTime_applyHostOp op) (fun _ _ hs => hs) _ s
    (fun _ _ => trivial) hs hm).1 h

/-! ### Whole cycles -/

/-- In range, a cycle advances the clock; of the drive's time this says nothing. -/
theorem cycle_clock (hs : s.positionInRange) (h : cycleWith exec s = .next t) : ∃ x, t.clock = ({ s.clock with driveTimeAcc := x } : Clock).ended := by
  obtain ⟨hlo, hhi, hy⟩ := hs
  unfold cycleWith at h
  split at h
  · cases h
  · obtain ⟨m, hm, h⟩ := andThen_eq_next.mp h
    obtain ⟨u, hu, hc⟩ := afterVic_completes m
    obtain rfl := next_injective (hu.symm.trans h)
    rw [checkRasterCycle_inRange ⟨hlo, hhi⟩] at hm
    exact ⟨_, ((vicStep_clock hm).trans (checkVic_clock hy)) ▸ hc⟩

theorem step_of_no_ops (h : s.hostOps = []) : step s = cycleWith exec s := by
  obtain ⟨⟩ := s
  obtain rfl := h
  rfl

/-- The law of one cycle with no host operation waiting. -/
theorem step_advances (hs : s.positionInRange) (hops : s.hostOps = []) (h : step s = .next t) :
    t.positionInRange ∧ t.hostOps = [] ∧ t.cfg = s.cfg ∧ t.framePosition = (s.framePosition + 1) % cyclesPerFrame s.cfg ∧
      t.frame = s.frame + BitVec.ofNat 64 ((s.framePosition + 1) / cyclesPerFrame s.cfg) ∧ t.cycle = s.cycle + 1 := by
  rw [step_of_no_ops hops] at h
  obtain ⟨x, hk⟩ := cycle_clock hs h
  have hr : ({ s.clock with driveTimeAcc := x } : Clock).InRange := hs
  refine ⟨?_, (congrArg Clock.hostOps hk).trans (Clock.ended_hostOps.trans hops), (congrArg Clock.cfg hk).trans Clock.ended_cfg,
    (congrArg Clock.position hk).trans (Clock.ended_position hr), (congrArg Clock.frame hk).trans (Clock.ended_frame hr),
    (congrArg Clock.cycle hk).trans Clock.ended_cycle⟩
  change t.clock.InRange
  rw [hk]
  exact (Clock.ended_advances hr).1

/-- The quotients of a sum taken in two parts. -/
theorem div_add_mod_add_div {f : Nat} (hf : 0 < f) (p n : Nat) : p / f + (p % f + n) / f = (p + n) / f := by
  conv_rhs => rw [← Nat.div_add_mod p f, Nat.add_assoc, Nat.mul_add_div hf]

/-- A run that ends in a next state makes its first step. -/
theorem run_succ {core : Host.Core} {n : Nat} {s t : core.State} (h : core.run (n + 1) s = .next t) :
    ∃ m, core.step s = .next m ∧ core.run n m = .next t := by
  rw [Host.Core.run] at h
  split at h
  · exact ⟨_, ‹_›, h⟩
  · cases h
  · cases h

/-! ### The position in a step -/

theorem positionInRange_of_clock (hs : s.positionInRange) (h : t.clock = s.clock) : t.positionInRange := by
  change t.clock.InRange
  rw [h]
  exact hs

theorem position_applyHostOp (op : HostOp) (hq : op.isConfigure = false) (hs : s.positionInRange) (h : applyHostOp op s = .next t) :
    t.positionInRange := by
  obtain ⟨hcfg, hpos⟩ := (applyHostOp_clock op h).position hq
  unfold State.positionInRange
  rw [hcfg]
  rcases hpos with ⟨hc, hy⟩ | ⟨hc, hy⟩ <;> rw [hc, hy]
  · exact hs
  · exact ⟨Nat.le_refl 1, Clock.cyclesPerLine_pos _, (Clock.linesPerFrame_range _).1⟩

theorem position_cycleKeeps : CycleKeeps State.positionInRange where
  ranged s hs := by rw [checkRasterCycle_inRange ⟨hs.1, hs.2.1⟩]; exact hs
  before s row _ hs := positionInRange_of_clock hs ((vicBeforeAccess_clock s row).trans (checkVic_clock hs.2.2))
  operation i s t hs hi := positionInRange_of_clock hs (exec_clock hi)
  after s hs := positionInRange_of_clock hs (vicAfterAccess_clock s)
  cia s c hs := positionInRange_of_clock hs (ciaTick_clock s c)
  iec s hs := positionInRange_of_clock hs (iecStep_clock s)
  queues s _ _ hs := hs
  ram s _ _ hs := hs
  color s _ _ hs := hs
  returned s _ _ hs := hs
  raised s _ hs := hs
  disk s hs := positionInRange_of_clock hs (diskAdvance_clock s)
  via s v hs := positionInRange_of_clock hs (viaTick_clock s v)
  time s _ hs := hs
  ended s hs := by
    change s.endCycle.clock.InRange
    rw [endCycle_clock]
    exact (Clock.ended_advances (k := s.clock) hs).1

end Sys2Proof.Machine

namespace Sys2Proof.Proofs

open Sys2Proof Sys2Proof.Machine

/-- Settles O45: each part of a cycle and each host operation but `configure` keeps the position in the frame. -/
theorem rasterInvariant : Obligations.RasterInvariant := fun _ _ hs h =>
  step_keeps_waiting (Q := fun op => op.isConfigure = false) position_cycleKeeps (fun op _ _ => position_applyHostOp op)
    (fun _ _ hs => hs) hs.1 hs.2 h

/-- Settles O46. -/
theorem driveInvariant : Obligations.DriveInvariant := fun _ _ =>
  ⟨drive_step (P := State.HeadInv) fun _ _ hk => hk.head, offset_step, driveTime_step⟩

/-- Settles O39, by induction on the number of cycles. -/
theorem frameLaw : Obligations.FrameLaw := by
  intro n
  induction n with
  | zero =>
    intro s t hs _ h
    obtain rfl := next_injective h
    have hlt : s.framePosition < cyclesPerFrame s.cfg := Clock.position_lt (k := s.clock) hs
    exact ⟨hs, rfl, (Nat.mod_eq_of_lt hlt).symm, by rw [Nat.add_zero, Nat.div_eq_of_lt hlt]; exact (BitVec.add_zero _).symm,
      (BitVec.add_zero _).symm⟩
  | succ n ih =>
    intro s t hs hops h
    obtain ⟨m, hm, h⟩ := run_succ h
    obtain ⟨hms, hmops, hmcfg, hmpos, hmframe, hmcycle⟩ := step_advances hs hops hm
    obtain ⟨hts, hcfg, hpos, hframe, hcycle⟩ := ih m t hms hmops h
    rw [hmcfg, hmpos] at hpos hframe
    have hp : 0 < cyclesPerFrame s.cfg := Nat.lt_of_le_of_lt (Nat.zero_le _) (Clock.position_lt (k := s.clock) hs)
    refine ⟨hts, hcfg.trans hmcfg, ?_, ?_, ?_⟩
    · rw [hpos, Nat.mod_add_mod, Nat.add_right_comm, Nat.add_assoc]
    · rw [hframe, hmframe, BitVec.add_assoc, ← BitVec.ofNat_add, div_add_mod_add_div hp, Nat.add_right_comm, Nat.add_assoc]
    · rw [hcycle, hmcycle, BitVec.add_assoc, BitVec.add_comm 1, BitVec.ofNat_add]
      rfl

end Sys2Proof.Proofs
end

section
/-!
PROOFS. Which cycles run to their end (O38).
-/

namespace Sys2Proof.Machine

variable {s t : State} {row : CycleRow}

theorem row?_of_clock (h : t.clock = s.clock) : t.row? = s.row? := by
  have hcfg : t.cfg = s.cfg := congrArg Clock.cfg h
  have hcycle : t.vic.rasterCycle = s.vic.rasterCycle := congrArg Clock.rasterCycle h
  rw [State.row?, State.row?, hcfg, hcycle]

/-! ### The accesses of a row complete (R701, R306) -/

/-- The g-access is defined: the mode is legal or the chip an 85xx. -/
def State.gLegal (s : State) : Prop := s.cfg.vic85xx = true ∨ s.vic.reg.illegalMode = false

theorem exec_vaG_of_legal (h : s.gLegal) : exec .vaG s = .next (if s.vic.displayState then s.gDisplay else s.gIdle) := by
  change execVaG s = _
  have hlegal : (!s.cfg.vic85xx && s.vic.reg.illegalMode) = false := by
    rcases h with h | h <;> rw [h]
    · rfl
    · exact Bool.and_false _
  rw [execVaG, hlegal, if_neg Bool.false_ne_true]
  exact (apply_ite ..).symm

theorem exec_vaG_of_illegal (hchip : s.cfg.vic85xx = false) (hmode : s.vic.reg.illegalMode = true) :
    exec .vaG s = .refused .vic65xxGlitch := by
  change execVaG s = _
  rw [execVaG, hchip, hmode]
  rfl

theorem phi1_completes (hrow : s.row? = some row) (hg : s.gLegal) : ∃ t, runWord exec ⟨.va, s.vic.phi1Word row, 0⟩ s = .next t := by
  unfold Vic.phi1Word
  split
  case h_1 => exact ⟨_, runWord_of_decode (i := .vaR) rfl⟩
  case h_2 => exact ⟨_, runWord_of_decode (i := .vaI) rfl⟩
  case h_3 => exact ⟨_, (runWord_of_decode (i := .vaG) rfl).trans (exec_vaG_of_legal hg)⟩
  case h_4 n hp => exact ⟨_, (runWord_of_decode (i := .vaP) rfl).trans (exec_vaP (phi1Sprite_of_row hrow (.inl hp)))⟩
  case h_5 n hp =>
    split
    · exact ⟨_, (runWord_of_decode (i := .vaS2) rfl).trans (exec_vaS2 (phi1Sprite_of_row hrow (.inr hp)))⟩
    · exact ⟨_, runWord_of_decode (i := .vaI) rfl⟩

theorem exec_vaC_completes (s : State) : ∃ t, exec .vaC s = .next t := by
  cases h : s.vic.baLine.lowFor3
  · exact ⟨_, exec_vaC_of_not_low _ h⟩
  · exact ⟨_, exec_vaC_of_low _ h⟩

/-- R701: the words of the phi2 accesses. -/
theorem phi2Word_some {v : Vic} {w : Byte} (h : v.phi2Word row = some w) : row.phi2 = .c ∧ w = 0xa ∨
    (∃ n, row.phi2 = .s1 n ∧ w = 0xd) ∨ ∃ n, row.phi2 = .s3 n ∧ w = 0xf := by
  unfold Vic.phi2Word at h
  split at h
  case h_1 => cases h
  case h_2 hp =>
    split at h
    · exact .inl ⟨hp, (Option.some.inj h).symm⟩
    · cases h
  case h_3 n hp =>
    split at h
    · exact .inr (.inl ⟨n, hp, (Option.some.inj h).symm⟩)
    · cases h
  case h_4 n hp =>
    split at h
    · exact .inr (.inr ⟨n, hp, (Option.some.inj h).symm⟩)
    · cases h

theorem phi2_completes (hrow : s.row? = some row) : ∃ t, vicPhi2 exec row s = .next t := by
  unfold vicPhi2
  split
  · rename_i w hw
    obtain ⟨-, rfl⟩ | ⟨n, hp, rfl⟩ | ⟨n, hp, rfl⟩ := phi2Word_some hw
    · obtain ⟨t, ht⟩ := exec_vaC_completes s
      exact ⟨t, (runWord_of_decode (i := .vaC) rfl).trans ht⟩
    · exact ⟨_, (runWord_of_decode (i := .vaS1) rfl).trans (exec_vaS1 _ (phi2Sprite_of_row hrow (.inl hp)))⟩
    · exact ⟨_, (runWord_of_decode (i := .vaS3) rfl).trans (exec_vaS3 _ (phi2Sprite_of_row hrow (.inr hp)))⟩
  · exact ⟨_, rfl⟩

/-! ### The state in which a row's accesses are made -/

theorem checkVic_row? (s : State) : s.checkVic.row? = s.row? :=
  recover_keeps (P := fun t => t.row? = s.row?) rfl fun _ => rfl

theorem checkVic_illegalMode (s : State) : s.checkVic.vic.reg.illegalMode = s.vic.reg.illegalMode := by
  refine recover_keeps (P := fun t => t.vic.reg.illegalMode = s.vic.reg.illegalMode) rfl fun _ => ?_
  have hmcm : ∀ b : Byte, bit (b &&& 0x3f) 4 = bit b 4 := by decide
  exact congrArg (fun m => s.vic.reg.ecm && (s.vic.reg.bmm || m)) (hmcm s.vic.reg.cr2)

theorem vicBeforeAccess_row? (s : State) (row : CycleRow) : (s.vicBeforeAccess row).row? = s.row? :=
  (row?_of_clock (vicBeforeAccess_clock s row)).trans (checkVic_row? s)

theorem vicBeforeAccess_illegalMode (s : State) (row : CycleRow) :
    (s.vicBeforeAccess row).vic.reg.illegalMode = s.vic.reg.illegalMode := by
  have hreg : (s.vicBeforeAccess row).vic.reg = s.checkVic.vic.reg := congrArg Prod.fst (vicBeforeAccess_works s row).held
  rw [hreg, checkVic_illegalMode]

theorem vicBeforeAccess_cfg (s : State) (row : CycleRow) : (s.vicBeforeAccess row).cfg = s.cfg := by
  obtain ⟨_, _, _, _, hf⟩ := vicBeforeAccess_irq s row
  rw [hf]

theorem vicStep_completes (hrow : s.row? = some row) (hg : s.gLegal) : ∃ t, vicStep exec row s = .next t := by
  have hb : (s.vicBeforeAccess row).row? = some row := (vicBeforeAccess_row? s row).trans hrow
  have hlegal : (s.vicBeforeAccess row).gLegal := by
    unfold State.gLegal
    rw [vicBeforeAccess_cfg, vicBeforeAccess_illegalMode]
    exact hg
  obtain ⟨m, hm⟩ := phi1_completes hb hlegal
  obtain ⟨m', hm'⟩ := phi2_completes ((row?_of_clock (runWord_clock hm)).trans hb)
  refine ⟨m'.vicAfterAccess, ?_⟩
  unfold vicStep
  dsimp only
  rw [hm, andThen_next, hm', andThen_next]

theorem vicStep_refused (hp : row.phi1 = .g) (hchip : s.cfg.vic85xx = false) (hmode : s.vic.reg.illegalMode = true) :
    vicStep exec row s = .refused .vic65xxGlitch := by
  have hword : (s.vicBeforeAccess row).vic.phi1Word row = 0x3 := by rw [Vic.phi1Word, hp]
  unfold vicStep
  dsimp only
  rw [hword, runWord_of_decode (i := .vaG) rfl, exec_vaG_of_illegal ((congrArg _ (vicBeforeAccess_cfg s row)).trans hchip)
    ((vicBeforeAccess_illegalMode s row).trans hmode)]
  rfl

/-! ### PAL cycles -/

theorem cycleRow?_pal {cfg : Config} (h : cfg.vicRevision = .pal6569) : cycleRow? cfg = some palRow? := by rw [cycleRow?, h]

/-- R701: a g-access in phi1. -/
theorem palRow_g {c : Nat} (hlo : 16 ≤ c) (hhi : c ≤ 55) : (entryOr palRow? c).phi1 = .g := by
  interval_cases c <;> rfl

theorem cycleWith_pal (h : s.cfg.vicRevision = .pal6569) :
    cycleWith exec s = andThen (vicStep exec (entryOr palRow? s.checkRasterCycle.vic.rasterCycle) s.checkRasterCycle) (afterVic exec) := by
  unfold cycleWith
  rw [cycleRow?_pal h]

theorem cycleWith_completes (h : s.cycleDefined) : ∃ t, cycleWith exec s = .next t := by
  obtain ⟨hpal, hg⟩ := h
  obtain ⟨v, ms, d, hf⟩ := checkRasterCycle_frame s
  have hcfg : s.checkRasterCycle.cfg = s.cfg := by rw [hf]
  have hrow : s.checkRasterCycle.row? = some (entryOr palRow? s.checkRasterCycle.vic.rasterCycle) := by
    rw [State.row?, hcfg, cycleRow?_pal hpal]
    exact entryOr_of_row (cycleRow?_pal hpal) (checkRasterCycle_range s)
  have hlegal : s.checkRasterCycle.gLegal := recover_keeps (P := State.gLegal) hg fun _ => hg
  obtain ⟨m, hm⟩ := vicStep_completes hrow hlegal
  obtain ⟨t, ht, -⟩ := afterVic_completes m
  exact ⟨t, by rw [cycleWith_pal hpal, hm, andThen_next, ht]⟩

end Sys2Proof.Machine

namespace Sys2Proof.Proofs

open Sys2Proof Sys2Proof.Machine

/-- Settles O38: the accesses of a PAL row complete but for an illegal g-access, and what follows the VIC's step always does. -/
theorem cycleCompletes : Obligations.CycleCompletes := by
  intro s hops
  rw [step_of_no_ops hops]
  refine ⟨cycleWith_completes, fun hntsc htable => ?ntsc, fun hpal hlo hhi hchip hmode => ?glitch, rfl⟩
  case ntsc =>
    unfold cycleWith cycleRow?
    rw [hntsc, htable]
  case glitch =>
    have hline : s.vic.rasterCycle ≤ cyclesPerLine s.cfg := by rw [cyclesPerLine, hpal]; exact hhi.trans (by decide)
    rw [cycleWith_pal hpal, checkRasterCycle_inRange ⟨by omega, hline⟩, vicStep_refused (palRow_g hlo hhi) hchip hmode]
    rfl

end Sys2Proof.Proofs
end

section
/-!
PROOFS. Writes of the VIC's registers and their delayed copies (O8), of the Y expansion (O11), of the compare line (O12), and the light pen
(O5).
-/

namespace Sys2Proof.Machine

/-! ### Delayed registers (R110, R600) -/

/-- Bits beyond the width are 0 in both, so the width does not matter. -/
theorem bit_selectBits_eq {w : Nat} (m a b : BitVec w) (k : Nat) : bit (selectBits m a b) k = if bit m k then bit a k else bit b k := by
  by_cases hk : k < w
  · exact bit_selectBits m a b hk
  · have hout : ∀ v : BitVec w, bit v k = false := fun v => BitVec.getLsbD_of_ge v k (Nat.le_of_not_lt hk)
    simp only [hout, ite_self]

theorem selectBits_zero {w : Nat} (a b : BitVec w) : selectBits 0 a b = b := by
  refine BitVec.eq_of_getLsbD_eq fun k _ => (bit_selectBits_eq 0 a b k).trans ?_
  rw [bit_zero, if_neg Bool.false_ne_true]
  rfl

theorem get_zipWith3 {α β γ δ : Type} {n : Nat} (f : α → β → γ → δ) (u : Eight α) (v : Eight β) (w : Eight γ) (hn : n < 8) :
    (Eight.zipWith3 f u v w).get n = f (u.get n) (v.get n) (w.get n) := by
  interval_cases n <;> rfl

theorem zipWith3_selectBits_zero {w : Nat} (u v : Eight (BitVec w)) :
    Eight.zipWith3 selectBits ⟨0, 0, 0, 0, 0, 0, 0, 0⟩ u v = v := by
  simp only [Eight.zipWith3, selectBits_zero]

theorem bit_zipWith3_selectBits {w n : Nat} (m a b : Eight (BitVec w)) (hn : n < 8) (k : Nat) :
    bit ((Eight.zipWith3 selectBits m a b).get n) k = if bit (m.get n) k then bit (a.get n) k else bit (b.get n) k := by
  rw [get_zipWith3 _ _ _ _ hn, bit_selectBits_eq]

/-- With no delayed field the copies are the registers. -/
theorem selectRegs_zero (a b : VicRegs) : selectRegs VicRegs.zero a b = b := by
  unfold selectRegs VicRegs.zero
  simp only [zipWith3_selectBits_zero, selectBits_zero]

theorem vicAfterAccess_regDelayed (s : State) : s.vicAfterAccess.vic.regDelayed = s.vic.reg := by
  unfold State.vicAfterAccess
  split <;> rfl

/-! ### The compare line (R761) -/

theorem compareCyclePassed_iff (v : Vic) : v.compareCyclePassed = true ↔ v.yCounter ≠ 0 ∨ 2 ≤ v.rasterCycle := by
  simp [Vic.compareCyclePassed]

theorem compareFires_iff (v : Vic) : v.CompareFires ↔
    (v.yCounter ≠ 0 ∨ 2 ≤ v.rasterCycle) ∧ v.yCounter.toNat = v.rasterIrqLine.toNat ∧ v.rasterMatchLatched = false := by
  rw [Vic.CompareFires, compareCyclePassed_iff]

/-- Both outcomes of the compare as one update. -/
theorem rasterCompareOnWrite_eq (s : State) :
    let v := s.vic
    let passed := v.yCounter ≠ 0 ∨ 2 ≤ v.rasterCycle
    let m := v.yCounter.toNat = v.rasterIrqLine.toNat
    let fires := passed ∧ m ∧ v.rasterMatchLatched = false
    let irr := if fires then v.irr ||| 0x01 else v.irr
    s.rasterCompareOnWrite = { s with
      lines := if fires then { s.lines with irqVic := decide (irr &&& v.imr &&& 0x0f ≠ 0) } else s.lines
      vic := { v with irr := irr, rasterMatchLatched := if passed then decide m else v.rasterMatchLatched } } := by
  intro v passed m fires irr
  by_cases hf : fires
  · rw [rasterCompareOnWrite_of_fires ((compareFires_iff v).mpr hf), vicIrqCondition_eq]
    obtain ⟨hp, hm, -⟩ := id hf
    simp only [irr, if_pos hf, if_pos hp, decide_eq_true hm]
    rfl
  · rw [rasterCompareOnWrite_of_not_fires fun h => hf ((compareFires_iff v).mp h)]
    simp only [irr, if_neg hf, compareCyclePassed_iff]
    rfl

/-! ### The light pen (R662) -/

theorem setLightPen_of_edge {s : State} (hpin : s.vic.lpPin = true) (hfirst : s.vic.lpTriggeredThisFrame = false) :
    s.setLightPen false = { s with
      vic := { s.vic with
        lpx := field s.vic.xCounter 1 8
        lpy := field s.vic.yCounter 0 8
        lpTriggeredThisFrame := true
        irr := s.vic.irr ||| 0x08
        lpPin := false }
      lines := { s.lines with irqVic := decide ((s.vic.irr ||| 0x08) &&& s.vic.imr &&& 0x0f ≠ 0) } } := by
  rw [State.setLightPen, hpin, hfirst, ← vicIrqCondition_eq]
  rfl

theorem setLightPen_of_no_edge {s : State} {level : Bool}
    (h : ¬ (s.vic.lpPin = true ∧ level = false ∧ s.vic.lpTriggeredThisFrame = false)) :
    s.setLightPen level = { s with vic := { s.vic with lpPin := level } } := by
  have hedge : (s.vic.lpPin && !level && !s.vic.lpTriggeredThisFrame) = false := by
    rw [Bool.eq_false_iff]
    simpa [and_assoc] using h
  rw [State.setLightPen]
  dsimp only
  rw [hedge]
  rfl

end Sys2Proof.Machine

namespace Sys2Proof.Proofs

open Sys2Proof Sys2Proof.Machine

/-- Settles O8: each delayed copy is selected bit by bit by the delay mask. -/
theorem vicDelayedRegisters : Obligations.VicDelayedRegisters := by
  intro s r kept m d
  refine ⟨⟨_, rfl, fun n hn => bit_zipWith3_selectBits _ _ _ hn, fun n hn => bit_zipWith3_selectBits _ _ _ hn,
    fun n hn => bit_zipWith3_selectBits _ _ _ hn, ?registers⟩, fun hm => ?empty, vicAfterAccess_regDelayed s⟩
  case registers =>
    refine ⟨?_, ?_, ?_, ?_, ?_, ?_, ?_, ?_, ?_, ?_, ?_, ?_, ?_, ?_, ?_⟩ <;> exact bit_selectBits_eq _ _ _
  case empty =>
    rw [writeVicReg_regDelayed, hm, selectRegs_zero]

/-- Settles O11. -/
theorem vicExpansionWrite : Obligations.VicExpansionWrite :=
  fun _ _ => ⟨_, rfl, fun _ hn => Eight.get_mapIdx _ _ hn⟩

/-- Settles O12: both writes end with the compare of the new line. -/
theorem vicRasterWrites : Obligations.VicRasterWrites :=
  fun _ _ => ⟨congrArg _ (rasterCompareOnWrite_eq _), congrArg _ (rasterCompareOnWrite_eq _)⟩

/-- Settles O5, by whether the pin makes its first falling edge of the frame. -/
theorem vicLightPen : Obligations.VicLightPen := fun _ =>
  ⟨rfl, rfl, fun _ h => congrArg _ (setLightPen_of_no_edge h), fun hpin hfirst => congrArg _ (setLightPen_of_edge hpin hfirst)⟩

end Sys2Proof.Proofs
end

section
/-!
PROOFS. The CIAs' ports and control registers (O14, O16, O17), their interrupt registers (O18, O19) and the accesses of the time of day (O20).
-/

namespace Sys2Proof.Machine

variable (x : Cia) (s : State) (c : CiaId) (d : Byte) (k : Nat)

/-! ### The stages of the pipeline (R501) -/

/-- One stage written, read back at any position. -/
theorem bit_withStage (v : BitVec 64) {i : Nat} (hi : i < 64) (b : Bool) : bit (withBit v i b) k = if k = i then b else bit v k := by
  rw [bit_withBit]
  exact if_congr (and_iff_left hi) rfl rfl

/-- A stage that is scheduled, beside what was. -/
theorem bit_withStage_true (v : BitVec 64) {i : Nat} (hi : i < 64) : bit (withBit v i true) k = (bit v k || k == i) := by
  rw [bit_withStage k v hi]
  by_cases h : k = i <;> simp [h]

/-- A stage that is cancelled. -/
theorem bit_withStage_false (v : BitVec 64) {i : Nat} (hi : i < 64) : bit (withBit v i false) k = (bit v k && k != i) := by
  rw [bit_withStage k v hi]
  by_cases h : k = i <;> simp [h]

/-! ### Port reads (R510, R512, R1201) -/

/-- What the chip drives: the latch, or high where the pin is an input. -/
theorem bit_driven (latch ddr : Byte) {k : Nat} (hk : k < 8) : bit (latch ||| ~~~ ddr) k = (bit latch k || !(bit ddr k)) := by
  rw [bit_or, bit_not, decide_eq_true hk, Bool.true_and]

theorem bit_ciaExtPA : bit (s.ciaExtPA c) k =
    if c = .cia2 ∧ k = 6 then s.iec.clkLine else if c = .cia2 ∧ k = 7 then s.iec.dataLine else bit (s.cia c).extPA k := by
  cases c
  · rfl
  · change bit (withBit (withBit s.cia2.extPA 6 s.iec.clkLine) 7 s.iec.dataLine) k = _
    rw [bit_withBit, bit_withBit]
    by_cases h6 : k = 6 <;> by_cases h7 : k = 7 <;> simp_all [State.cia]

theorem bit_timerPins (v : Byte) : bit (timerPins x v) k =
    if k = 6 ∧ bit x.cra 1 = true then x.pb6Out else if k = 7 ∧ bit x.crb 1 = true then x.pb7Out else bit v k := by
  unfold timerPins
  dsimp only
  cases bit x.cra 1 <;> cases bit x.crb 1 <;>
    by_cases h6 : k = 6 <;> by_cases h7 : k = 7 <;> simp_all [bit_withBit]

/-! ### High latches and the serial register (R518, R534) -/

theorem schedule_loadA0 : x.schedule dLoadA0 = { x with delay := x.delay ||| 0x100 } := rfl
theorem schedule_loadB0 : x.schedule dLoadB0 = { x with delay := x.delay ||| 0x800 } := rfl
theorem schedule_serLoad0 : x.schedule dSerLoad0 = { x with delay := x.delay ||| 0x200000000 } := rfl
theorem schedule_todInt0 : x.schedule dTODInt0 = { x with delay := x.delay ||| 0x20000000 } := rfl

/-! ### Control registers (R544, R546) -/

/-- The strobe of a control register. -/
theorem bit_strobe (v : BitVec 64) {i : Nat} (hi : i < 64) (load : Bool) :
    bit (if load then withBit v i true else v) k = (bit v k || (k == i && load)) := by
  cases load
  · rw [if_neg Bool.false_ne_true, Bool.and_false, Bool.or_false]
  · rw [if_pos rfl, bit_withStage_true k v hi, Bool.and_true]

/-- A count stage and the one-shot stage written. -/
theorem bit_countStage (v : BitVec 64) {i j : Nat} (hi : i < 64) (hj : j < 64) (hij : i ≠ j) (on one : Bool) :
    bit (withBit (withBit v i on) j one) k = if k = i then on else if k = j then one else bit v k := by
  rw [bit_withStage k _ hj, bit_withStage k _ hi]
  by_cases h : k = i
  · rw [if_pos h, if_pos h, if_neg (h ▸ hij)]
  · rw [if_neg h, if_neg h]

/-- Both count stages and the one-shot stage written. -/
theorem bit_countStages (v : BitVec 64) {i i' j : Nat} (hi : i < 64) (hi' : i' < 64) (hj : j < 64) (hij : i ≠ j) (hij' : i' ≠ j) (on one : Bool) :
    bit (withBit (withBit (withBit v i on) i' on) j one) k = if k = i ∨ k = i' then on else if k = j then one else bit v k := by
  rw [bit_countStage k _ hi' hj hij', bit_withStage k _ hi]
  by_cases h : k = i
  · rw [if_pos (Or.inl h : k = i ∨ k = i'), if_pos h, if_neg (show k ≠ j from h ▸ hij), ite_self]
  · rw [if_neg h, if_congr (or_iff_right h) rfl rfl]

theorem countsB_eq : countsB d = (bit d 0 && !(bit d 5) && !(bit d 6)) := by revert d; decide

theorem bit_writeCra_delay : bit (x.writeCra d).delay k =
    if k = 0 ∨ k = 1 then bit d 0 && !(bit d 5) else if k = 20 then bit d 3 else bit x.delay k || (k == 8 && bit d 4) := by
  rw [← bit_strobe k x.delay (by decide)]
  exact bit_countStages k _ (by decide) (by decide) (by decide) (by decide) (by decide) _ _

theorem bit_writeCrb_delay : bit (x.writeCrb d).delay k =
    if k = 4 ∨ k = 5 then bit d 0 && !(bit d 5) && !(bit d 6)
    else if k = 21 then bit d 3 else bit x.delay k || (k == 11 && bit d 4) := by
  rw [← bit_strobe k x.delay (by decide), ← countsB_eq]
  exact bit_countStages k _ (by decide) (by decide) (by decide) (by decide) (by decide) _ _

theorem bit_writeCra_feed : bit (x.writeCra d).feed k =
    if k = 0 then bit d 0 && !(bit d 5) else if k = 20 then bit d 3 else bit x.feed k :=
  bit_countStage k _ (by decide) (by decide) (by decide) _ _

theorem bit_writeCrb_feed : bit (x.writeCrb d).feed k =
    if k = 4 then bit d 0 && !(bit d 5) && !(bit d 6) else if k = 21 then bit d 3 else bit x.feed k := by
  rw [← countsB_eq]
  exact bit_countStage k _ (by decide) (by decide) (by decide) _ _

/-- The serial port where the direction stays, and where it changes (R544). -/
theorem writeCra_serial_same (h : bit d 6 = bit x.cra 6) :
    (x.writeCra d).serCounter = x.serCounter ∧ (x.writeCra d).sdrPending = x.sdrPending ∧ (x.writeCra d).serClk = x.serClk := by
  simp [Cia.writeCra, h]

theorem writeCra_serial_changed (h : bit d 6 ≠ bit x.cra 6) :
    (x.writeCra d).serCounter = 0 ∧ (x.writeCra d).sdrPending = false ∧ (x.writeCra d).serClk = true := by
  simp [Cia.writeCra, h]

/-! ### The interrupt registers (R530, R532) -/

theorem bit_readIcr_delay : bit x.readIcr.delay k = if k = 18 ∨ k = 19 then false else bit x.delay k || k == 24 || k == 22 := by
  change bit (withBit (withBit (withBit (withBit x.delay 18 false) 19 false) 24 true) 22 true) k = _
  simp only [bit_withStage_true k _ (show 22 < 64 by decide), bit_withStage_true k _ (show 24 < 64 by decide)]
  by_cases h : k = 18 ∨ k = 19
  · obtain rfl | rfl := h <;> simp [bit_withStage]
  · obtain ⟨h18, h19⟩ := not_or.mp h
    simp [bit_withStage, h18, h19]

theorem exec_rCiaIcr : exec (.rCiaIcr c) s = .next { (s.setCia c (s.cia c).readIcr) with
    hostData := (s.cia c).icr &&& 0x9f
    lines := match c with
      | .cia1 => { s.lines with irqCia1 := false }
      | .cia2 => { s.lines with nmiCia2 := false } } := by
  change (((s.setCia c (s.cia c).readIcr).ciaInterrupt c false).hostReturns ((s.cia c).icr &&& 0x9f)) = _
  generalize (s.cia c).readIcr = y
  cases c <;> rfl

/-- Each of the five bits written as 1 becomes bit 7. -/
theorem bit_writeImr_imr (hk : k < 8) : bit (x.writeImr d).imr k = if k < 5 ∧ bit d k = true then bit d 7 else bit x.imr k := by
  have hmask : ∀ d : Byte, ∀ k : Fin 8, bit (d &&& 0x1f) k = (decide (k.val < 5) && bit d k) := by decide
  have hmask := hmask d ⟨k, hk⟩
  rw [writeImr_eq]
  dsimp only
  cases bit d 7 <;> by_cases h5 : k < 5 <;> cases hb : bit d k <;> simp_all [bit_not]

theorem bit_cancelled : bit (withBit (withBit (withBit (withBit x.delay dInterrupt0 false) dInterrupt1 false) dSetIcr0 false) dSetIcr1 false) k =
    (bit x.delay k && !([18, 19, 27, 28].contains k)) := by
  simp only [bit_withStage_false k _ (show dInterrupt0 < 64 by decide), bit_withStage_false k _ (show dInterrupt1 < 64 by decide),
    bit_withStage_false k _ (show dSetIcr0 < 64 by decide), bit_withStage_false k _ (show dSetIcr1 < 64 by decide)]
  simp [dInterrupt0, dInterrupt1, dSetIcr0, dSetIcr1, Bool.and_assoc, bne, beq_eq_decide]

theorem bit_interruptScheduled : bit (withBit (withBit x.delay dInterrupt0 true) dSetIcr0 true) k = (bit x.delay k || k == 18 || k == 27) := by
  rw [bit_withStage_true k _ (by decide), bit_withStage_true k _ (by decide)]
  rfl

/-! ### Time of day (R570-R578) -/

theorem freeze_eq (t : Tod) : t.freeze = { t with latch := t.readView, latched := true } := by
  unfold Tod.freeze Tod.readView
  cases h : t.latched
  · rfl
  · obtain ⟨⟩ := t
    obtain rfl := h
    rfl

theorem checkAlarm_eq : x.checkAlarm = { x with delay := if x.tod.time = x.tod.alarm then x.delay ||| 0x20000000 else x.delay } := by
  unfold Cia.checkAlarm
  split <;> rfl

/-- A write of the alarm. -/
theorem writeTod_alarm (f : TodTime → TodTime) (stop : Option Bool) (h : bit x.crb 7 = true) :
    x.writeTod f stop = { x with tod := { x.tod with alarm := f x.tod.alarm } }.checkAlarm := by
  rw [Cia.writeTod, h]
  rfl

/-- A write of the time. -/
theorem writeTod_time (f : TodTime → TodTime) (stop : Option Bool) (h : bit x.crb 7 = false) : x.writeTod f stop =
    { x with tod := { x.tod with time := f x.tod.time, stopped := stop.getD x.tod.stopped } }.checkAlarm := by
  rw [Cia.writeTod, h]
  rfl

theorem writtenHour_eq : (if d &&& 0x1f = 0x12 then d ^^^ 0x80 else d) &&& 0x9f =
    if d &&& 0x1f = 0x12 then (d ^^^ 0x80) &&& 0x9f else d &&& 0x9f := apply_ite (· &&& 0x9f) ..

end Sys2Proof.Machine

namespace Sys2Proof.Proofs

open Sys2Proof Sys2Proof.Machine

/-- Settles O14: bit by bit, what the chip drives and what lies outside. -/
theorem ciaPortReads : Obligations.CiaPortReads := by
  intro s c hregular x
  obtain ⟨hpa, hpb, -⟩ := hregular
  refine ⟨⟨_, rfl, fun k hk => ?portA⟩, ⟨_, rfl, fun k hk => ?portB⟩⟩
  case portA =>
    rw [State.ciaReadPA, bit_and, hpa, bit_driven _ _ hk, bit_ciaExtPA]
  case portB =>
    rw [ciaReadPB, bit_timerPins, bit_and, hpb, bit_driven _ _ hk]

/-- Settles O16. -/
theorem ciaTimerHighAndSerialWrites : Obligations.CiaTimerHighAndSerialWrites := by
  intro s c d x
  refine ⟨?timerA, ?timerB, ?serial⟩
  case timerA =>
    change Host.Outcome.next (s.setCia c (if bit x.cra 0 then _ else _)) = _
    cases bit x.cra 0 <;> rfl
  case timerB =>
    change Host.Outcome.next (s.setCia c (if bit x.crb 0 then _ else _)) = _
    cases bit x.crb 0 <;> rfl
  case serial =>
    change Host.Outcome.next (s.setCia c (if bit x.cra 6 then _ else _)) = _
    cases bit x.cra 6 <;> rfl

/-- Settles O17: the stages bit by bit, and the serial port by whether its direction changes. -/
theorem ciaControlWrites : Obligations.CiaControlWrites := by
  intro s c d x
  exact ⟨⟨x.writeCra d, rfl, rfl, ⟨bit_writeCra_delay x d, bit_writeCra_feed x d⟩, rfl, writeCra_serial_same x d,
      writeCra_serial_changed x d, rfl⟩,
    ⟨x.writeCrb d, rfl, rfl, ⟨bit_writeCrb_delay x d, bit_writeCrb_feed x d⟩, rfl, rfl⟩⟩

/-- Settles O18. -/
theorem ciaIcrRead : Obligations.CiaIcrRead :=
  fun s c => ⟨(s.cia c).readIcr, exec_rCiaIcr s c, rfl, rfl, bit_readIcr_delay _, rfl⟩

/-- Settles O19: the three cases of the pipeline are those of `writeImr_eq`. -/
theorem ciaMaskWrite : Obligations.CiaMaskWrite := by
  intro s c d x
  refine ⟨x.writeImr d, rfl, bit_writeImr_imr x d, ?cancelled, ?scheduled, ?kept, ?frame⟩ <;> rw [writeImr_eq]
  case cancelled =>
    intro h k
    dsimp only at h ⊢
    rw [if_pos h, bit_cancelled]
  case scheduled =>
    intro h hint k
    dsimp only at h ⊢
    rw [if_neg h, hint, if_neg Bool.false_ne_true, bit_interruptScheduled]
  case kept =>
    intro h hint
    dsimp only at h ⊢
    rw [if_neg h, if_pos hint]

/-- Settles O20: reads through the frozen view, writes by bit 7 of CRB. -/
theorem todAccesses : Obligations.TodAccesses := by
  intro s c d x t alarmSet hour
  refine ⟨?hours, rfl, rfl, rfl, fun h => ?alarm, fun h => ?time⟩
  case hours =>
    change (s.setCia c { x with tod := t.freeze }).hostReturns (t.freeze.latch.hour &&& 0x9f) = _
    rw [freeze_eq]
    rfl
  case alarm =>
    refine ⟨?_, ?_, ?_, ?_⟩ <;> refine congrArg (fun y => Host.Outcome.next (s.setCia c y)) ((writeTod_alarm x _ _ h).trans ?_)
    · exact checkAlarm_eq _
    · exact checkAlarm_eq _
    · exact checkAlarm_eq _
    · rw [writtenHour_eq]; exact checkAlarm_eq _
  case time =>
    refine ⟨?_, ?_, ?_, ?_⟩ <;> refine congrArg (fun y => Host.Outcome.next (s.setCia c y)) ((writeTod_time x _ _ h).trans ?_)
    · exact checkAlarm_eq _
    · exact checkAlarm_eq _
    · exact checkAlarm_eq _
    · rw [writtenHour_eq]; exact checkAlarm_eq _

end Sys2Proof.Proofs
end

section
/-!
PROOFS. The VIAs' port B and control registers (O23, O25, O26), the VIC's accesses and their addresses (O29, O30, O32), and words of the
spec (O35).
-/

namespace Sys2Proof.Machine

variable (s : State) (x : Via) (d : Byte)

/-! ### Port B of a VIA (R1002-R1004) -/

/-- Bit 7 is the timer output while ACR bit 7 is set, an output reads its latch, an input its pin. -/
theorem bit_viaReadPB (pbIn : Byte) {k : Nat} (hk : k < 8) : bit (viaReadPB x pbIn) k =
    if k = 7 ∧ bit x.acr 7 = true then x.pb7T1Out
    else if bit x.ddrb k then bit x.orb k
    else if bit x.acr 1 then bit x.irb k else bit pbIn k := by
  have hv : bit ((x.orb &&& x.ddrb) ||| ((if bit x.acr 1 = true then x.irb else pbIn) &&& ~~~ x.ddrb)) k =
      if bit x.ddrb k then bit x.orb k else if bit x.acr 1 then bit x.irb k else bit pbIn k := by
    rw [bit_or, bit_and, bit_and, bit_not, decide_eq_true hk]
    cases bit x.ddrb k <;> cases bit x.acr 1 <;> simp
  rw [← hv, viaReadPB]
  generalize (x.orb &&& x.ddrb) ||| _ = v
  cases bit x.acr 7
  · rw [if_neg Bool.false_ne_true, if_neg fun h => Bool.false_ne_true h.2]
  · rw [if_pos rfl, bit_withBit]
    exact if_congr (by simp) rfl rfl

/-- R1002: the wiring of VIA1's port B. -/
def State.via1Wire (s : State) (k : Nat) : Bool :=
  match k with
  | 0 => !s.iec.dataLine
  | 2 => !s.iec.clkLine
  | 5 => s.cfg.deviceNumber == .nine
  | 6 => false
  | 7 => !s.iec.atnLine
  | k => bit s.via1.extPB k

/-- R1003, R1133: the wiring of VIA2's port B. -/
def State.via2Wire (s : State) (k : Nat) : Bool :=
  match k with
  | 4 => !(s.disk.inserted && s.disk.writeProtected && !s.head.changeSignal)
  | 7 => !s.head.sync
  | k => bit s.via2.extPB k

theorem bit_viaPbIn_via1 {k : Nat} (hk : k < 8) : bit (s.viaPbIn .via1) k = s.via1Wire k := by
  unfold State.viaPbIn State.via1Wire
  interval_cases k <;> simp [bit_withBit]

theorem bit_viaPbIn_via2 {k : Nat} (hk : k < 8) : bit (s.viaPbIn .via2) k = s.via2Wire k := by
  unfold State.viaPbIn State.via2Wire
  interval_cases k <;> simp [bit_withBit, State.wpSense]

/-! ### Writes of the timer and the control registers (R1015, R1033, R1035) -/

theorem loadT1_eq : x.loadT1 d = { x with
    t1Latch := d ++ field x.t1Latch 0 8
    t1Counter := d ++ field x.t1Latch 0 8
    t1ReloadPending := false
    t1Armed := true
    ifr := x.ifr &&& 0xbf
    pb7T1Out := x.pb7T1Out && !(bit x.acr 7) } := by
  rw [Via.loadT1, clearIfr_ifrT1, withHi_eq_append]
  cases bit x.acr 7
  · simp
  · simp

theorem shiftMode_iff : field d 2 3 = 0 ↔ d &&& 0x1c = 0 := by revert d; decide

/-- R441: the message put is the last of the queue. -/
theorem getLast?_putMessage (q : List Message) (m : Message) : (putMessage q m).getLast? = some m := by
  unfold putMessage
  split <;> exact List.getLast?_concat ..

theorem outputLevel_eq (mode : BitVec 3) (line : Bool) :
    outputLevel mode line = if mode = 6 then false else if 4 ≤ mode.toNat then true else line := by
  revert mode line; decide

/-! ### The VIC's accesses (R306, R731, R732) -/

theorem bit_setWidth {w : Nat} (v : BitVec w) (n k : Nat) : bit (v.setWidth n) k = (decide (k < n) && bit v k) := BitVec.getLsbD_setWidth ..

theorem bit_shiftLeft {w : Nat} (v : BitVec w) (n k : Nat) : bit (v <<< n) k = (decide (k < w) && !decide (k < n) && bit v (k - n)) :=
  BitVec.getLsbD_shiftLeft ..

/-- R742: the byte of a phi2 access, and what making it changes. -/
theorem phi2Byte_reads (a : BitVec 14) :
    (s.vic.baLine.lowFor3 = true → (s.phi2Byte a).2.vicAddr = a ∧ (s.phi2Byte a).2.draws = s.draws ∧
      (s.phi2Byte a).1 = s.vicByte (s.phi2Byte a).2.vicAddr) ∧
    (s.vic.baLine.lowFor3 = false → (s.phi2Byte a).2.vicAddr = s.vicAddr ∧ (s.phi2Byte a).2.draws = s.draws + 1) := by
  refine ⟨fun h => ?_, fun h => ?_⟩
  · rw [phi2Byte_of_low s a h]
    exact ⟨rfl, rfl, rfl⟩
  · rw [phi2Byte_of_not_low s a h]
    exact ⟨rfl, rfl⟩

theorem word_eq (col : Nibble) (ch b : Byte) :
    ((0 : BitVec 12) ++ col ++ ch) ++ b = b.setWidth 32 ||| (ch.setWidth 32 <<< 8) ||| (col.setWidth 32 <<< 16) := by
  refine eq_of_bit fun k hk => ?_
  rw [bit_append, bit_append, bit_append, bit_or, bit_or, bit_shiftLeft, bit_shiftLeft, bit_setWidth, bit_setWidth, bit_setWidth, bit_zero]
  have out : ∀ {w : Nat} (v : BitVec w) {i : Nat}, w ≤ i → bit v i = false := fun v i h => BitVec.getLsbD_of_ge v i h
  by_cases h8 : k < 8
  · have h16 : k < 16 := by omega
    simp [h8, h16, hk]
  · by_cases h16 : k < 16
    · have hin : k - 8 < 8 := by omega
      have hin32 : k - 8 < 32 := by omega
      simp [h8, h16, hk, hin, hin32, out b (Nat.le_of_not_lt h8)]
    · have hch : ¬ k - 8 < 8 := by omega
      have h32 : k - 16 < 32 := by omega
      have hsub : k - 8 - 8 = k - 16 := by omega
      simp only [h8, h16, hk, hch, h32, hsub, out b (Nat.le_of_not_lt h8), out ch (Nat.le_of_not_lt hch)]
      by_cases h20 : k - 16 < 4
      · simp [h20]
      · simp [h20, out col (Nat.le_of_not_lt h20)]

theorem append_toNat {m n : Nat} (a : BitVec m) (b : BitVec n) : (a ++ b).toNat = a.toNat * 2 ^ n + b.toNat := by
  rw [BitVec.toNat_append, ← Nat.shiftLeft_add_eq_or_of_lt b.isLt, Nat.shiftLeft_eq]

theorem vm_toNat (r : VicRegs) : r.vm.toNat = r.memptr.toNat / 16 := by
  rw [VicRegs.vm, BitVec.extractLsb'_toNat, Nat.shiftRight_eq_div_pow, Nat.mod_eq_of_lt (by omega)]

theorem cb_toNat (r : VicRegs) : r.cb.toNat = r.memptr.toNat / 2 % 8 := by
  rw [VicRegs.cb, BitVec.extractLsb'_toNat, Nat.shiftRight_eq_div_pow]

theorem cAddress_toNat (r : VicRegs) (vc : BitVec 10) : (cAddress r vc).toNat = r.memptr.toNat / 16 * 0x400 + vc.toNat := by
  exact (append_toNat r.vm vc).trans (by rw [vm_toNat]; rfl)

/-- The pointer byte over the sprite's counter. -/
theorem sAddress_pointer (p : Byte) (mc : BitVec 6) : sAddress (p.setWidth 16 <<< 6) mc = p ++ mc := by
  refine eq_of_bit fun k hk => ?_
  rw [sAddress_eq, bit_or, bit_setWidth, bit_setWidth, bit_shiftLeft, bit_setWidth, bit_append]
  have hmc : ¬ k < 6 → bit mc k = false := fun h => BitVec.getLsbD_of_ge mc k (Nat.le_of_not_lt h)
  by_cases h : k < 6
  · simp [h, hk]
  · have h16 : k < 16 := by omega
    have h6 : k - 6 < 16 := by omega
    simp [h, hk, h16, h6, hmc h]

theorem sAddress_toNat (p mc : BitVec 8) (hmc : mc.toNat < 64) :
    (sAddress (p.setWidth 16 <<< 6) (mc.setWidth 6)).toNat = p.toNat * 64 + mc.toNat := by
  rw [sAddress_pointer, append_toNat, BitVec.toNat_setWidth, Nat.mod_eq_of_lt hmc]
  rfl

theorem gAddress_of_not_ecm {r : VicRegs} (h : r.ecm = false) (ch : Byte) (vc : BitVec 10) (rc : BitVec 3) : gAddress r ch vc rc =
    if r.bmm then (r.cb.extractLsb' 2 1 ++ vc) ++ rc else (r.cb ++ ch) ++ rc := by
  simp [gAddress, ecmMask, h]

theorem gAddress_toNat {r : VicRegs} (h : r.ecm = false) (ch : Byte) (vc : BitVec 10) (rc : BitVec 3) : (gAddress r ch vc rc).toNat =
    if r.bmm then r.memptr.toNat / 8 % 2 * 0x2000 + vc.toNat * 8 + rc.toNat
    else r.memptr.toNat / 2 % 8 * 0x800 + ch.toNat * 8 + rc.toNat := by
  rw [gAddress_of_not_ecm h]
  cases r.bmm
  · rw [if_neg Bool.false_ne_true, if_neg Bool.false_ne_true, append_toNat, append_toNat, cb_toNat]
    omega
  · rw [if_pos rfl, if_pos rfl, append_toNat, append_toNat, BitVec.extractLsb'_toNat, cb_toNat, Nat.shiftRight_eq_div_pow]
    omega

/-- ECM clears address bits 9 and 10. -/
theorem bit_ecmMask {r : VicRegs} (h : r.ecm = true) (a : BitVec 14) (k : Nat) : bit (ecmMask r a) k = (bit a k && k != 9 && k != 10) := by
  have hmask : ∀ k : Fin 14, bit (0x39ff : BitVec 14) k = (k.val != 9 && k.val != 10) := by decide
  rw [ecmMask, if_pos h, bit_and, Bool.and_assoc]
  by_cases hk : k < 14
  · rw [hmask ⟨k, hk⟩]
  · rw [show bit a k = false from BitVec.getLsbD_of_ge a k (Nat.le_of_not_lt hk), Bool.false_and, Bool.false_and]

/-- The address is the one without ECM, masked. -/
theorem gAddress_eq (r : VicRegs) (ch : Byte) (vc : BitVec 10) (rc : BitVec 3) :
    gAddress r ch vc rc = ecmMask r (gAddress { r with cr1 := r.cr1 &&& 0xbf } ch vc rc) := by
  have hecm : ∀ b : Byte, bit (b &&& 0xbf) 6 = false := by decide
  have hbmm : ∀ b : Byte, bit (b &&& 0xbf) 5 = bit b 5 := by decide
  rw [gAddress_of_not_ecm (r := { r with cr1 := r.cr1 &&& 0xbf }) (hecm r.cr1), gAddress, ← apply_ite (ecmMask r)]
  exact congrArg (fun b => ecmMask r (if b = true then _ else _)) (hbmm r.cr1).symm

theorem gIdleAddress_eq (r : VicRegs) : gIdleAddress r = if r.ecm then 0x39ff else 0x3fff := rfl

theorem vicByte_eq (a : BitVec 14) : s.vicByte a =
    if (s.vicBank = 0 ∨ s.vicBank = 2) ∧ 0x1000 ≤ a.toNat ∧ a.toNat ≤ 0x1fff then s.cfg.charRom.read (a.toNat - 0x1000)
    else s.ram.read (s.vicBank * 0x4000 + a.toNat) := by
  unfold State.vicByte
  by_cases h : 0x1000 ≤ a.toNat ∧ a.toNat ≤ 0x1fff
  · have hpage : a.toNat / 4096 = 1 := by omega
    have hoff : a.toNat % 4096 = a.toNat - 0x1000 := by omega
    rw [hoff]
    exact if_congr (and_congr_right' (iff_of_true hpage h)) rfl rfl
  · have hpage : ¬ a.toNat / 4096 = 1 := by omega
    rw [if_neg fun hc => hpage hc.2, if_neg fun hc => h hc.2]

end Sys2Proof.Machine

namespace Sys2Proof.Proofs

open Sys2Proof Sys2Proof.Machine

/-- Settles O23: the byte bit by bit, with the wiring of each chip. -/
theorem viaPortBRead : Obligations.ViaPortBRead := by
  intro s v x wired mode
  refine ⟨viaReadPB x (s.viaPbIn v), ?effect, fun k hk => ?bits⟩
  case effect =>
    change (s.viaAccess v x.clearPortBFlags).driveReturns _ = _
    rw [clearPortBFlags_eq, driveReturns_eq, cb2Mode_eq_field]
  case bits =>
    have hwired : bit (s.viaPbIn v) k = wired k := by
      cases v
      · exact bit_viaPbIn_via1 s hk
      · exact bit_viaPbIn_via2 s hk
    rw [bit_viaReadPB x _ hk, hwired]

/-- Settles O25. -/
theorem viaTimerOneAndShiftWrites : Obligations.ViaTimerOneAndShiftWrites := by
  intro s v d x
  refine ⟨congrArg (fun y => Host.Outcome.next (s.viaAccess v y)) (loadT1_eq x d), rfl, fun h => ?still, fun h => ?shifting⟩
  case still =>
    change Host.Outcome.next (if field d 2 3 = 0 then _ else _) = _
    rw [if_pos ((shiftMode_iff d).mpr h)]
  case shifting =>
    refine ⟨putMessage (s.viaAccess v { x with acr := d }).messages (.diagnostic .viaShiftModeUnsupported), ?_, getLast?_putMessage ..⟩
    change Host.Outcome.next (if field d 2 3 = 0 then _ else _) = _
    rw [if_neg fun hf => h ((shiftMode_iff d).mp hf)]
    rfl

/-- Settles O26. -/
theorem viaControlWrites : Obligations.ViaControlWrites := by
  intro s v d x line
  refine ⟨?_, rfl, rfl⟩
  change Host.Outcome.next (s.viaAccess v (x.writePcr d)) = _
  rw [Via.writePcr, outputLevel_eq, outputLevel_eq]
  rfl

/-- Settles O29, by whether the line is shown. -/
theorem graphicsAccess : Obligations.GraphicsAccess := by
  intro s h
  have hlegal : s.gLegal := h.imp_right fun hn => by
    rw [Bool.eq_false_iff, VicRegs.illegalMode]
    simpa using hn
  refine ⟨fun hd => ?shown, fun hd => ?idle⟩
  case shown =>
    rw [exec_vaG_of_legal hlegal, if_pos hd, State.gDisplay]
    dsimp only
    rw [word_eq]
    rfl
  case idle =>
    intro a
    have ha : gIdleAddress s.vic.reg = a := gIdleAddress_eq s.vic.reg
    rw [exec_vaG_of_legal hlegal, hd, if_neg Bool.false_ne_true, State.gIdle, ha]
    rfl

/-- Settles O30, by whether BA was low for three cycles. -/
theorem phi2Accesses : Obligations.Phi2Accesses := by
  intro s
  refine ⟨?column, fun n hn q hq => ?byte⟩
  case column =>
    cases hlow : s.vic.baLine.lowFor3
    · exact ⟨_, _, _, _, exec_vaC_of_not_low s hlow, nofun, fun _ => ⟨rfl, rfl⟩⟩
    · exact ⟨_, _, _, _, exec_vaC_of_low s hlow, fun _ => ⟨rfl, rfl, rfl, (setWidth_eq_field _ (by decide)).symm⟩, nofun⟩
  case byte =>
    have hread := phi2Byte_reads s (sAddress (s.vic.sprites.get n).ptr (s.vic.sprites.get n).mc)
    obtain rfl | rfl : q = _ ∨ q = _ := by simpa using hq
    · exact ⟨_, _, _, (exec_vaS1 s hn).trans (congrArg _ (phi2Byte_mapSprite ..)), hread⟩
    · exact ⟨_, _, _, (exec_vaS3 s hn).trans (congrArg _ (phi2Byte_mapSprite ..)), hread⟩

/-- Settles O32. -/
theorem accessAddresses : Obligations.AccessAddresses :=
  ⟨cAddress_toNat, fun r _ hn => pAddress_toNat r hn, sAddress_toNat, fun _ ch vc rc h => gAddress_toNat h ch vc rc,
    fun r ch vc rc h k => by rw [gAddress_eq, bit_ecmMask h], vicByte_eq⟩

/-- Settles O35: each word is evaluated. -/
theorem specWords : Obligations.SpecWords := ⟨rfl, rfl, rfl, rfl, rfl, rfl, rfl, rfl, rfl, rfl⟩

end Sys2Proof.Proofs
end

section
/-!
PROOFS. The reset state and the reset operations (O47, O48), the IEC lines (O60), BA and the host CPU (O49), and the collisions of a pixel
(O51).
-/

namespace Sys2Proof.Machine

variable {s t : State}

/-! ### The invariants of the reset state -/

/-- No host operation waits at reset. -/
theorem reset_hostOps {Q : Nat × HostOp → Prop} : ∀ x ∈ State.reset.hostOps, Q x := by
  intro x hx
  cases hx

theorem reset_memoryInv : State.reset.MemoryInv :=
  ⟨⟨Memory.wf_nil, Memory.wf_nil, Memory.wf_nil, Memory.wf_nil, Memory.wf_nil⟩, reset_hostOps⟩

theorem reset_ciaInv : State.reset.CiaInv := ⟨Cia.regular_reset, Cia.regular_reset⟩

theorem reset_pipelineInv : State.reset.PipelineInv := ⟨Cia.pipelineDefined_reset, Cia.pipelineDefined_reset⟩

theorem reset_lineInv : State.reset.LineInv := ⟨rfl, rfl, rfl, rfl, rfl⟩

theorem reset_unusedBitsInv : State.reset.UnusedBitsInv := ⟨rfl, rfl, rfl, rfl, rfl, rfl, rfl, rfl⟩

theorem reset_expansionInv : State.reset.ExpansionInv :=
  forall_lt_eight ⟨fun _ => rfl, fun _ => rfl, fun _ => rfl, fun _ => rfl, fun _ => rfl, fun _ => rfl, fun _ => rfl, fun _ => rfl⟩

theorem reset_rasterInv : State.reset.RasterInv :=
  ⟨by unfold State.positionInRange; decide, reset_hostOps⟩

theorem reset_headInv : State.reset.HeadInv := by
  unfold State.HeadInv
  decide

/-- R1101: every half-track of the default parameters has bits. -/
theorem default_tracksNonempty : configTracksNonempty Config.default := by
  unfold configTracksNonempty
  decide +kernel

theorem reset_offsetInv : State.reset.OffsetInv :=
  ⟨default_tracksNonempty, powerOn_tracksNonempty default_tracksNonempty,
    trackLength_pos (powerOn_tracksNonempty default_tracksNonempty) State.reset.head.halftrack, reset_hostOps⟩

theorem reset_driveTimeInv : State.reset.DriveTimeInv := by
  unfold State.DriveTimeInv
  decide

/-! ### The reset operations (R705, R1401, R1402) -/

theorem resetX_pal {cfg : Config} (h : cfg.vicRevision = .pal6569) : resetX cfg = 400 := by
  rw [resetX, cycleRow?_pal h]
  rfl

/-- A VIA after a drive reset that made its k-th draw first. -/
def Via.redrawn (old : Via) (k : Nat) : Via := { Via.reset with
  t1Counter := Config.freeWord k
  t1Latch := Config.freeWord (k + 1)
  t2Counter := Config.freeWord (k + 2)
  t2LatchLo := Config.freeByte (k + 3)
  extPA := old.extPA
  extPB := old.extPB
  extCA2 := old.extCA2
  extCB1 := old.extCB1
  extCB2 := old.extCB2 }

theorem resetDrive_eq (s : State) : s.resetDrive = { s with
    via1 := s.via1.redrawn s.draws
    via2 := s.via2.redrawn (s.draws + 4)
    head := { Head.reset with changeSignal := s.head.changeSignal, changeTimer := s.head.changeTimer }
    lines := { s.lines with driveIrqVia1 := false, driveIrqVia2 := false }
    driveTimeAcc := 0
    iec := s.iec.resetDirty false true
    draws := s.draws + 8 } := by
  rw [State.resetDrive, resetVia_eq, resetVia_eq]
  rfl

/-! ### The lines of the bus (R1203, R1204) -/

theorem not_eq_false_iff (b : Bool) : (!b) = false ↔ b = true := by rw [Bool.not_eq_false']

theorem atnGate_iff (atn : Bool) (pb : Byte) : atnGate atn pb = true ↔ ¬ (atn = false ↔ bit pb 4 = true) := by
  unfold atnGate
  cases atn <;> cases bit pb 4 <;> decide

/-! ### BA (R730, R830, R410, R411) -/

theorem bit_dmaBits (v : Vic) {n : Nat} (hn : n < 8) : bit v.dmaBits n = (v.sprites.get n).dma := by
  rw [Vic.dmaBits, bit_toByte _ hn, Eight.get_mapIdx _ _ hn]

theorem bit_palBaSprites (c : Nat) {n : Nat} (hn : n < 8) : bit (palBaSprites c) n = palWindow n c := by
  rw [palBaSprites, bit_toByte _ hn]
  interval_cases n <;> rfl

theorem palP_range (n : Nat) : 1 ≤ palP n ∧ palP n ≤ 62 := by unfold palP; split <;> decide

/-- The window is the five cycles from three before the sprite's p-access. -/
theorem palWindow_iff (n c : Nat) : palWindow n c = true ↔ ∃ k, k < 5 ∧ (c + 3) % 63 = (palP n + k) % 63 := by
  have hp := palP_range n
  rw [palWindow, decide_eq_true_iff]
  refine ⟨fun h => ⟨(c + 63 + 3 - palP n) % 63, h, by omega⟩, fun ⟨k, hk, he⟩ => by omega⟩

theorem bit_baWord (v : Vic) (row : CycleRow) (k : Nat) : bit (v.baWord row) k =
    (decide (k < 16) && (bit v.dmaBits k && bit row.baSprites k) || (v.badLine && row.baBadLine && k == 8)) := by
  rw [Vic.baWord, bit_or, bit_setWidth, bit_and]
  congr 1
  cases v.badLine && row.baBadLine
  · exact bit_zero k
  · exact (BitVec.getLsbD_twoPow 8 k).trans (decide_eq_decide.mpr eq_comm)

theorem palRow?_columns {c : Nat} {row : CycleRow} (h : palRow? c = some row) :
    row.baSprites = palBaSprites c ∧ row.baBadLine = (decide (12 ≤ c) && decide (c ≤ 54)) := by
  unfold palRow? at h
  split at h
  · obtain rfl := Option.some.inj h
    exact ⟨rfl, rfl⟩
  · cases h

theorem hostProceeds_eq_false_iff (s : State) (a : HostAccess) : s.hostProceeds a = false ↔
    s.vic.aec = true ∨ (s.vic.baLine.v0 ≠ 0 ∧ a.isWrite = decide (s.cfg.cpuBaPolicy = .sourceLiteral)) := by
  have hba : s.vic.baLow = true ↔ s.vic.baLine.v0 ≠ 0 := bne_iff_ne
  rw [← hba]
  unfold State.hostProceeds
  cases s.vic.aec <;> cases s.vic.baLow <;> cases s.cfg.cpuBaPolicy <;> cases a.isWrite <;> decide

/-! ### Collisions (R930) -/

theorem bit_spriteSet (px : Eight (BitVec 2)) {n : Nat} (hn : n < 8) : bit (spriteSet px) n = (px.get n != 0) := by
  rw [spriteSet, bit_toByte _ hn, Eight.get_mapIdx _ _ hn]

/-- With one sprite in the set, there are two exactly if there is another. -/
theorem atLeastTwo_iff : ∀ (S : Byte) (n : Fin 8), bit S n = true → (atLeastTwo S = true ↔ ∃ m : Fin 8, m ≠ n ∧ bit S m = true) := by
  decide

/-- A pixel collides with another sprite's. -/
theorem atLeastTwo_spriteSet (px : Eight (BitVec 2)) {n : Nat} (hn : n < 8) (h : px.get n ≠ 0) :
    atLeastTwo (spriteSet px) = true ↔ ∃ m, m < 8 ∧ m ≠ n ∧ px.get m ≠ 0 := by
  have hset : ∀ {m}, m < 8 → (bit (spriteSet px) m = true ↔ px.get m ≠ 0) := fun hm => by rw [bit_spriteSet px hm, bne_iff_ne]
  rw [atLeastTwo_iff (spriteSet px) ⟨n, hn⟩ ((hset hn).mpr h)]
  exact ⟨fun ⟨m, hne, hm⟩ => ⟨m, m.isLt, fun he => hne (Fin.ext he), (hset m.isLt).mp hm⟩,
    fun ⟨m, hm8, hne, hm⟩ => ⟨⟨m, hm8⟩, fun he => hne (congrArg Fin.val he), (hset hm8).mpr hm⟩⟩

theorem ne_zero_of_atLeastTwo : ∀ S : Byte, atLeastTwo S = true → S ≠ 0 := by decide

theorem or_ne_zero {S : Byte} (c : Byte) (h : S ≠ 0) : c ||| S ≠ 0 := fun hz => h (BitVec.or_eq_zero_iff.mp hz).2

/-- A collision is latched in the interrupt register where its own register was 0 and is no more. -/
theorem latch_of_ne_zero (irr m c : Byte) {c' : Byte} (h : c' ≠ 0) :
    (if c = 0 then irr ||| m else irr) = irr ||| (if c = 0 ∧ c' ≠ 0 then m else 0x00) := by
  by_cases hc : c = 0
  · rw [if_pos hc, if_pos ⟨hc, h⟩]
  · rw [if_neg hc, if_neg fun hn => hc hn.1]
    exact BitVec.or_zero.symm

theorem latch_of_same (irr m c : Byte) : irr = irr ||| (if c = 0 ∧ c ≠ 0 then m else 0x00) := by
  rw [if_neg fun h => h.2 h.1]
  exact BitVec.or_zero.symm

/-- The first half of `collide`: the sprites of S with each other. -/
def collideSprites (v : Vic) (S : Byte) : Vic :=
  if atLeastTwo S then
    { v with
      irr := if v.spriteSpriteCollision = 0 then v.irr ||| 0x04 else v.irr
      spriteSpriteCollision := v.spriteSpriteCollision ||| S }
  else v

/-- The second half: the sprites of S with the foreground. -/
def collideBackground (v : Vic) (S : Byte) (fg : Bool) : Vic :=
  if S != 0 && fg then
    { v with
      irr := if v.spriteBackgroundCollision = 0 then v.irr ||| 0x02 else v.irr
      spriteBackgroundCollision := v.spriteBackgroundCollision ||| S }
  else v

theorem collide_halves (v : Vic) (px : Eight (BitVec 2)) (fg : Bool) :
    v.collide px fg = collideBackground (collideSprites v (spriteSet px)) (spriteSet px) fg := rfl

theorem collideSprites_eq (v : Vic) (S : Byte) :
    let c := if atLeastTwo S then v.spriteSpriteCollision ||| S else v.spriteSpriteCollision
    collideSprites v S = { v with
      spriteSpriteCollision := c
      irr := v.irr ||| (if v.spriteSpriteCollision = 0 ∧ c ≠ 0 then 0x04 else 0x00) } := by
  unfold collideSprites
  by_cases h : atLeastTwo S = true
  · simp only [if_pos h]
    rw [latch_of_ne_zero _ _ _ (or_ne_zero _ (ne_zero_of_atLeastTwo S h))]
  · simp only [if_neg h]
    rw [← latch_of_same]

theorem collideBackground_eq (v : Vic) (S : Byte) (fg : Bool) :
    let c := if S ≠ 0 ∧ fg = true then v.spriteBackgroundCollision ||| S else v.spriteBackgroundCollision
    collideBackground v S fg = { v with
      spriteBackgroundCollision := c
      irr := v.irr ||| (if v.spriteBackgroundCollision = 0 ∧ c ≠ 0 then 0x02 else 0x00) } := by
  have hand : (S != 0 && fg) = true ↔ S ≠ 0 ∧ fg = true := by rw [Bool.and_eq_true, bne_iff_ne]
  unfold collideBackground
  by_cases h : S ≠ 0 ∧ fg = true
  · simp only [if_pos h, if_pos (hand.mpr h)]
    rw [latch_of_ne_zero _ _ _ (or_ne_zero _ h.1)]
  · simp only [if_neg h, if_neg (mt hand.mp h)]
    rw [← latch_of_same]

/-- The collisions of a pixel, both halves together. -/
theorem collide_eq (v : Vic) (px : Eight (BitVec 2)) (fg : Bool) :
    let S := spriteSet px
    let ss := if atLeastTwo S then v.spriteSpriteCollision ||| S else v.spriteSpriteCollision
    let sb := if S ≠ 0 ∧ fg = true then v.spriteBackgroundCollision ||| S else v.spriteBackgroundCollision
    v.collide px fg = { v with
      spriteSpriteCollision := ss
      spriteBackgroundCollision := sb
      irr := v.irr ||| (if v.spriteSpriteCollision = 0 ∧ ss ≠ 0 then 0x04 else 0x00) |||
        (if v.spriteBackgroundCollision = 0 ∧ sb ≠ 0 then 0x02 else 0x00) } := by
  rw [collide_halves, collideSprites_eq, collideBackground_eq]

theorem bit_collide_sprites (v : Vic) (px : Eight (BitVec 2)) (fg : Bool) {n : Nat} (hn : n < 8) :
    bit (v.collide px fg).spriteSpriteCollision n = true ↔
      bit v.spriteSpriteCollision n = true ∨ (px.get n ≠ 0 ∧ ∃ m, m < 8 ∧ m ≠ n ∧ px.get m ≠ 0) := by
  rw [collide_eq]
  dsimp only
  by_cases hp : px.get n = 0
  · have hb : bit (spriteSet px) n = false := by rw [bit_spriteSet px hn, hp]; rfl
    split <;> simp [hb, hp]
  · have hb : bit (spriteSet px) n = true := by rw [bit_spriteSet px hn]; exact bne_iff_ne.mpr hp
    rw [← atLeastTwo_spriteSet px hn hp]
    split <;> simp_all

theorem bit_collide_background (v : Vic) (px : Eight (BitVec 2)) (fg : Bool) {n : Nat} (hn : n < 8) :
    bit (v.collide px fg).spriteBackgroundCollision n = true ↔
      bit v.spriteBackgroundCollision n = true ∨ (px.get n ≠ 0 ∧ fg = true) := by
  rw [collide_eq]
  dsimp only
  have hb : bit (spriteSet px) n = true ↔ px.get n ≠ 0 := by rw [bit_spriteSet px hn, bne_iff_ne]
  rw [← hb]
  by_cases hs : spriteSet px = 0
  · rw [if_neg fun h => h.1 hs, hs, bit_zero]
    simp
  · cases fg
    · simp
    · rw [if_pos ⟨hs, rfl⟩, bit_or, Bool.or_eq_true, and_iff_left rfl]

end Sys2Proof.Machine

namespace Sys2Proof.Proofs

open Sys2Proof Sys2Proof.Machine

/-- Settles O48: the host reset by its definition, the drive reset by what `resetVia` makes of each VIA. -/
theorem resets : Obligations.Resets := by
  intro s
  refine ⟨⟨resetX s.cfg, resetX_pal, rfl⟩, ?_⟩
  exact ⟨Config.freeWord s.draws, Config.freeWord (s.draws + 1), Config.freeWord (s.draws + 2), Config.freeWord (s.draws + 4),
    Config.freeWord (s.draws + 5), Config.freeWord (s.draws + 6), Config.freeByte (s.draws + 3), Config.freeByte (s.draws + 7), s.draws + 8,
    congrArg Host.Outcome.next (resetDrive_eq s)⟩

/-- Settles O60. -/
theorem iecLines : Obligations.IecLines := by
  intro s t pa pb drive
  refine ⟨not_eq_false_iff _, (not_eq_false_iff _).trans ?clk, (not_eq_false_iff _).trans ?data, rfl, rfl, rfl, rfl, rfl⟩
  case clk => rw [Bool.or_eq_true, Bool.and_eq_true]
  case data =>
    rw [Bool.or_eq_true, Bool.and_eq_true, Bool.or_eq_true, atnGate_iff]
    rfl

/-- Settles O49: the windows of R730, and what holds the host CPU. -/
theorem busHandover : Obligations.BusHandover := by
  refine ⟨fun v c row hrow => ?ba, fun s a rest hq => ⟨fun h => ?held, fun h => ?runs⟩⟩
  case ba =>
    obtain ⟨hsprites, hbad⟩ := palRow?_columns hrow
    refine ⟨fun n hn => ?_, ?_, fun k hk => ?_⟩ <;> rw [bit_baWord, hsprites, hbad]
    · have h16 : n < 16 := by omega
      have h8 : (n == 8) = false := beq_false_of_ne (by omega)
      rw [decide_eq_true h16, bit_dmaBits v hn, bit_palBaSprites c hn, h8, getD_eq_palP hn, ← palWindow_iff]
      simp
    · have hout : bit v.dmaBits 8 = false := BitVec.getLsbD_of_ge _ _ (Nat.le_refl 8)
      simp [hout]
    · have hout : bit v.dmaBits k = false := BitVec.getLsbD_of_ge _ _ (by omega)
      have h8 : (k == 8) = false := beq_false_of_ne (by omega)
      simp [hout, h8]
  case held =>
    simp only [hostCpuPhi2, hq, (hostProceeds_eq_false_iff s a).mpr h]
    rfl
  case runs =>
    have hproceeds : s.hostProceeds a = true := Bool.not_eq_false _ ▸ mt (hostProceeds_eq_false_iff s a).mp h
    simp only [hostCpuPhi2, hq, hproceeds, if_true]

/-- Settles O51. -/
theorem pixelCollisions : Obligations.PixelCollisions := by
  intro v px fg w
  refine ⟨fun n hn => bit_collide_sprites v px fg hn, fun n hn => bit_collide_background v px fg hn, ?_, ?_⟩
  · have hw : w = _ := collide_eq v px fg
    rw [hw]
  · have hw : w = _ := collide_eq v px fg
    rw [hw]

/-- Settles O47: each invariant by its lemma, each value by its definition. -/
theorem resetInvariants : Obligations.ResetInvariants := by
  refine ⟨reset_memoryInv, reset_ciaInv, reset_pipelineInv, reset_lineInv, reset_unusedBitsInv, nofun, reset_expansionInv, reset_rasterInv,
    reset_headInv, reset_offsetInv, reset_driveTimeInv, ?_⟩
  refine ⟨rfl, rfl, rfl, rfl, rfl, rfl, rfl, rfl, rfl, rfl, ?sprites, ?cias, ?vias, rfl, rfl, rfl, rfl, rfl, rfl, rfl, rfl, rfl, rfl, rfl, rfl, rfl⟩
  case sprites => exact forall_lt_eight (by decide)
  case cias => intro c; cases c <;> decide
  case vias => intro v; cases v <;> decide

end Sys2Proof.Proofs
end

section
/-!
PROOFS. The period of a VIA timer (O55), the time of day (O54), GCR and sectors (O59), and a sprite's shift register (O52).
-/

namespace Sys2Proof.Machine

/-! ### Timer 1 of a VIA: the rest of the tick leaves it (R1020, R1021) -/

/-- What timer 1 is made of: counter, latch, reload, control register and flag. -/
def Via.timer1 (x : Via) : BitVec 16 × BitVec 16 × Bool × Byte × Bool := (x.t1Counter, x.t1Latch, x.t1ReloadPending, x.acr, bit x.ifr 6)

section
variable (x : Via)

theorem timer1_setIfr {k : Nat} (h : k ≠ 6) : (x.setIfr k).timer1 = x.timer1 := by
  have hbit : bit (withBit x.ifr k true) 6 = bit x.ifr 6 := by
    rw [bit_withBit]
    exact if_neg fun hk => h hk.1.symm
  exact congrArg (fun b => (x.t1Counter, x.t1Latch, x.t1ReloadPending, x.acr, b)) hbit

theorem timer1_ite {p : Prop} [Decidable p] {y z : Via} (hy : y.timer1 = x.timer1) (hz : z.timer1 = x.timer1) :
    (if p then y else z).timer1 = x.timer1 := by
  split
  · exact hy
  · exact hz

theorem timer1_t2Expires (at_ : BitVec 16) : (x.t2Expires at_).timer1 = x.timer1 :=
  timer1_ite x (timer1_setIfr x (k := ifrT2) (by decide)) rfl

theorem timer1_t2Tick (pbIn : Byte) : (x.t2Tick pbIn).timer1 = x.timer1 :=
  timer1_ite x (timer1_t2Expires { x with t2Counter := x.t2Counter - 1 } 0xffff)
    (timer1_ite x (timer1_t2Expires { x with t2Counter := x.t2Counter - 1 } 0) rfl)

theorem timer1_sampleCa1 (level : Bool) (paIn : Byte) : (x.sampleCa1 level paIn).timer1 = x.timer1 := by
  have hset : (x.setIfr ifrCA1).timer1 = x.timer1 := timer1_setIfr x (by decide)
  refine timer1_ite x ?_ rfl
  exact timer1_ite x (timer1_ite x hset hset) (timer1_ite x hset hset)

theorem timer1_sampleCb1 (level : Bool) (pbIn : Byte) : (x.sampleCb1 level pbIn).timer1 = x.timer1 := by
  have hset : (x.setIfr ifrCB1).timer1 = x.timer1 := timer1_setIfr x (by decide)
  refine timer1_ite x ?_ rfl
  exact timer1_ite x (timer1_ite x hset hset) (timer1_ite x hset hset)

theorem timer1_sampleCa2 (level : Bool) : (x.sampleCa2 level).timer1 = x.timer1 :=
  timer1_ite x (timer1_ite x (timer1_setIfr x (k := ifrCA2) (by decide)) rfl) rfl

theorem timer1_sampleCb2 (level : Bool) : (x.sampleCb2 level).timer1 = x.timer1 :=
  timer1_ite x (timer1_ite x (timer1_setIfr x (k := ifrCB2) (by decide)) rfl) rfl

theorem timer1_tick (paIn pbIn : Byte) (ca1In : Bool) (other : ControlIn) : (x.tick paIn pbIn ca1In other).timer1 = x.t1Tick.timer1 :=
  (timer1_sampleCb2 _ _).trans ((timer1_sampleCa2 _ _).trans ((timer1_sampleCb1 _ _ _).trans
    ((timer1_sampleCa1 _ _ _).trans (timer1_t2Tick _ _))))

/-! ### The period (R1021) -/

theorem timer1_count (hp : x.t1ReloadPending = false) (hc : x.t1Counter - 1 ≠ 0xffff) :
    x.t1Tick.timer1 = (x.t1Counter - 1, x.t1Latch, false, x.acr, bit x.ifr 6) := by
  simp only [Via.t1Tick, hp, if_false, if_neg hc, Bool.false_eq_true]
  simp only [Via.timer1]

theorem timer1_underflow (hp : x.t1ReloadPending = false) (hacr : bit x.acr 6 = true) (hc : x.t1Counter - 1 = 0xffff) :
    x.t1Tick.timer1 = (0xffff, x.t1Latch, true, x.acr, true) := by
  simp only [Via.t1Tick, hp, if_false, hc, hacr, if_true, Bool.false_eq_true]
  have hbit : bit (withBit x.ifr 6 true) 6 = true := by simp [bit_withBit]
  exact congrArg (fun b => (_, _, _, _, b)) hbit

theorem timer1_reload (hp : x.t1ReloadPending = true) : x.t1Tick.timer1 = (x.t1Latch, x.t1Latch, false, x.acr, bit x.ifr 6) := by
  simp only [Via.t1Tick, hp, if_true]
  rfl

theorem timer1_eq_iff {c l : BitVec 16} {p : Bool} {a : Byte} {f : Bool} : x.timer1 = (c, l, p, a, f) ↔
    x.t1Counter = c ∧ x.t1Latch = l ∧ x.t1ReloadPending = p ∧ x.acr = a ∧ bit x.ifr 6 = f := by
  simp only [Via.timer1, Prod.mk.injEq]

/-- A free-running timer counts down from N. -/
theorem timer1_ticks (pa pb : Byte) (ca1 : Bool) {N : Nat} (hN : N < 2 ^ 16) (hc : x.t1Counter = BitVec.ofNat 16 N)
    (hp : x.t1ReloadPending = false) (k : Nat) (hk : k ≤ N) :
    (Via.ticks pa pb ca1 k x).timer1 = (BitVec.ofNat 16 (N - k), x.t1Latch, false, x.acr, bit x.ifr 6) := by
  induction k with
  | zero => exact (timer1_eq_iff x).mpr ⟨hc, rfl, hp, rfl, rfl⟩
  | succ k ih =>
    obtain ⟨hcounter, hlatch, hpending, hacr, hflag⟩ := (timer1_eq_iff _).mp (ih (by omega))
    have hnext : BitVec.ofNat 16 (N - k) - 1 = BitVec.ofNat 16 (N - (k + 1)) := by
      refine BitVec.eq_of_toNat_eq ?_
      rw [BitVec.toNat_sub_of_le (BitVec.le_def.mpr (by simp; omega))]
      simp
      omega
    have hne : BitVec.ofNat 16 (N - (k + 1)) ≠ 0xffff := by
      intro he
      have := congrArg BitVec.toNat he
      simp at this
      omega
    rw [Via.ticks, timer1_tick, timer1_count _ hpending (by rw [hcounter, hnext]; exact hne), hcounter, hnext, hlatch, hacr, hflag]

end

end Sys2Proof.Machine

namespace Sys2Proof.Proofs

open Sys2Proof Sys2Proof.Machine

/-- Settles O55: N ticks down to 0, the tick that passes it, and the reload. -/
theorem viaTimerOnePeriod : Obligations.ViaTimerOnePeriod := by
  intro x N pa pb ca1 hN hc hl hp hacr
  have hdown := timer1_ticks x pa pb ca1 hN hc hp
  have hunder : (Via.ticks pa pb ca1 (N + 1) x).timer1 = (0xffff, x.t1Latch, true, x.acr, true) := by
    obtain ⟨hcounter, hlatch, hpending, hacr', -⟩ := (timer1_eq_iff _).mp (hdown N (Nat.le_refl N))
    rw [Via.ticks, timer1_tick, timer1_underflow _ hpending (by rw [hacr', hacr]) (by rw [hcounter, Nat.sub_self]; rfl), hlatch, hacr']
  have hreload : (Via.ticks pa pb ca1 (N + 2) x).timer1 = (x.t1Latch, x.t1Latch, false, x.acr, true) := by
    obtain ⟨-, hlatch, hpending, hacr', hflag⟩ := (timer1_eq_iff _).mp hunder
    rw [Via.ticks, timer1_tick, timer1_reload _ hpending, hlatch, hacr', hflag]
  obtain ⟨hc1, -, -, -, hf1⟩ := (timer1_eq_iff _).mp hunder
  obtain ⟨hc2, hl2, hp2, ha2, -⟩ := (timer1_eq_iff _).mp hreload
  refine ⟨fun k hk => ?_, hc1, hf1, hc2.trans hl, hl2, hp2, ha2⟩
  obtain ⟨hck, -, -, -, hfk⟩ := (timer1_eq_iff _).mp (hdown k hk)
  exact ⟨hck, hfk⟩

end Sys2Proof.Proofs
end

section
/-!
PROOFS. The time of day (O54), GCR and sectors (O59), and a sprite's shift register (O52).
-/

namespace Sys2Proof.Machine

/-! ### Time of day: BCD bytes (R545, R579) -/

/-- The hour of a clock of 24 hours. -/
def hourOfDay (h : Byte) : Nat := bcdValue (h &&& 0x1f) % 12 + if bit h 7 then 12 else 0

/-- The values an hours register takes. -/
def HourValid (h : Byte) : Prop := h &&& 0x60 = 0 ∧ (field h 0 4).toNat < 10 ∧ 1 ≤ bcdValue (h &&& 0x1f) ∧ bcdValue (h &&& 0x1f) ≤ 12

/-- The values a register of minutes or seconds takes. -/
def SixtyValid (b : Byte) : Prop := (field b 0 4).toNat < 10 ∧ (field b 4 4).toNat < 6

theorem tenth_next : ∀ b : Byte, b.toNat < 10 → b ≠ 9 → ((b + 1) &&& 0x0f).toNat = b.toNat + 1 ∧ b.toNat + 1 < 10 := by decide

theorem sixty_value : ∀ b : Byte, SixtyValid b → bcdValue b < 60 := by
  unfold SixtyValid
  decide

theorem sixty_next : ∀ b : Byte, SixtyValid b → b ≠ 0x59 →
    SixtyValid (bcdInc b 0x70) ∧ bcdValue (bcdInc b 0x70) = bcdValue b + 1 ∧ bcdValue b + 1 < 60 := by
  unfold SixtyValid
  decide

theorem hour_next : ∀ h : Byte, HourValid h → HourValid (hourInc h) ∧ hourOfDay (hourInc h) = (hourOfDay h + 1) % 24 := by
  unfold HourValid
  decide

theorem hourOfDay_lt (h : Byte) : hourOfDay h < 24 := by
  unfold hourOfDay
  split <;> omega

theorem valid_iff (t : TodTime) : t.valid ↔ t.tenth.toNat < 10 ∧ SixtyValid t.sec ∧ SixtyValid t.min ∧ HourValid t.hour := by
  unfold TodTime.valid SixtyValid HourValid
  simp only [and_assoc]

theorem tenths_eq (t : TodTime) : t.tenths = ((hourOfDay t.hour * 60 + bcdValue t.min) * 60 + bcdValue t.sec) * 10 + t.tenth.toNat := rfl

/-! ### GCR (R1150, R1153) -/

theorem gcrNibble_gcrCode : ∀ n : Nibble, gcrNibble (gcrCode n) = some n := by decide

theorem bits_joined : ∀ c : BitVec 5, bitOf (c.getMsbD 0) ++ bitOf (c.getMsbD 1) ++ bitOf (c.getMsbD 2) ++ bitOf (c.getMsbD 3) ++
    bitOf (c.getMsbD 4) = c := by decide

theorem bitsOf_five (c : BitVec 5) : bitsOf c = [c.getMsbD 0, c.getMsbD 1, c.getMsbD 2, c.getMsbD 3, c.getMsbD 4] := rfl

theorem nibbles_joined : ∀ b : Byte, (field b 4 4 ++ field b 0 4 : Byte) = b := by decide

/-- One byte off the front of a stream. -/
theorem gcrDecode_gcrByte (n : Nat) (b : Byte) (bits : List Bool) :
    gcrDecode (n + 1) (gcrByte b ++ bits) = (gcrDecode n bits).map fun r => (b :: r.1, r.2) := by
  rw [gcrByte, bitsOf_five, bitsOf_five]
  simp only [List.cons_append, List.nil_append, gcrDecode, bits_joined, gcrNibble_gcrCode]
  cases gcrDecode n bits with
  | none => rfl
  | some r =>
    dsimp only [Option.map_some]
    rw [nibbles_joined]

theorem gcrDecode_gcrEncode (l : List Byte) (rest : List Bool) : gcrDecode l.length (gcrEncode l ++ rest) = some (l, rest) := by
  induction l with
  | nil => rfl
  | cons b l ih =>
    have hsplit : gcrEncode (b :: l) ++ rest = gcrByte b ++ (gcrEncode l ++ rest) := List.append_assoc ..
    rw [hsplit, List.length_cons, gcrDecode_gcrByte, ih]
    rfl

/-! ### Sectors (R1152, R1153) -/

/-- The gap and the SYNC mark lead to the data block, whose first code begins with a 0. -/
theorem afterSync_gap (bits : List Bool) : afterSync 0 (gapBits ++ syncBits ++ false :: bits) = false :: bits := by
  have hgap : gapBits = List.flatten (List.replicate 36 [false, true]) := by decide
  have hsync : syncBits = List.replicate 40 true := rfl
  rw [hgap, hsync]
  rfl

theorem gcrEncode_dataBytes (data : List Byte) : ∃ bits, gcrEncode (dataBytes data) = false :: bits := ⟨_, rfl⟩

theorem dataBytes_eq (data : List Byte) : dataBytes data = 0x07 :: (data ++ [xorAll data, 0x00, 0x00]) := rfl

/-- A header and its data block whose marks and checksums match. -/
theorem readSector_of_blocks {bits r r' : List Bool} {c n t id2 id1 x y : Byte} {block : List Byte}
    (hheader : gcrDecode 8 bits = some ([0x08, c, n, t, id2, id1, x, y], r))
    (hblock : gcrDecode 260 (afterSync 0 r) = some (0x07 :: block, r')) (hc : c = n ^^^ t ^^^ id2 ^^^ id1)
    (hsum : block.getD 256 0 = xorAll (block.take 256)) : readSector bits = some (t.toNat, n.toNat, block.take 256) := by
  rw [readSector, hheader]
  change (match gcrDecode 260 (afterSync 0 r) with
    | some (0x07 :: block, _) => _
    | _ => none) = _
  rw [hblock]
  exact if_pos ⟨hc, hsum⟩

theorem readSector_written (id : Byte × Byte) {t n : Nat} {data : List Byte} (rest : List Bool) (ht : t < 256) (hn : n < 256)
    (hd : data.length = 256) :
    readSector (gcrEncode (headerBytes id t n) ++ gapBits ++ syncBits ++ gcrEncode (dataBytes data) ++ rest) = some (t, n, data) := by
  obtain ⟨bits, hbits⟩ := gcrEncode_dataBytes data
  have hheader := gcrDecode_gcrEncode (headerBytes id t n) (gapBits ++ syncBits ++ (gcrEncode (dataBytes data) ++ rest))
  have hblock := gcrDecode_gcrEncode (dataBytes data) rest
  have hafter : afterSync 0 (gapBits ++ syncBits ++ (gcrEncode (dataBytes data) ++ rest)) = gcrEncode (dataBytes data) ++ rest := by
    rw [hbits]
    exact afterSync_gap (bits ++ rest)
  have hlen : (dataBytes data).length = 260 := by rw [dataBytes_eq]; simp [hd]
  rw [hlen, ← hafter] at hblock
  have htake : (data ++ [xorAll data, 0x00, 0x00]).take 256 = data := by rw [← hd]; exact List.take_left
  have hsum : (data ++ [xorAll data, 0x00, 0x00]).getD 256 0 = xorAll data := by
    rw [← hd, List.getD_append_right _ _ _ _ (Nat.le_refl _), Nat.sub_self]
    rfl
  have htn : (BitVec.ofNat 8 t).toNat = t ∧ (BitVec.ofNat 8 n).toNat = n := by
    rw [BitVec.toNat_ofNat, BitVec.toNat_ofNat]
    exact ⟨Nat.mod_eq_of_lt ht, Nat.mod_eq_of_lt hn⟩
  rw [List.append_assoc, List.append_assoc, List.append_assoc, ← List.append_assoc gapBits]
  rw [readSector_of_blocks (block := data ++ [xorAll data, 0x00, 0x00]) hheader hblock rfl (by rw [htake, hsum]), htake, htn.1, htn.2]

end Sys2Proof.Machine

namespace Sys2Proof.Proofs

open Sys2Proof Sys2Proof.Machine

/-- Settles O54, by the first register that does not roll over. -/
theorem todCounts : Obligations.TodCounts := by
  intro t ht
  obtain ⟨htenth, hsec, hmin, hhour⟩ := (valid_iff t).mp ht
  have hs := sixty_value t.sec hsec
  have hm := sixty_value t.min hmin
  have hh := hourOfDay_lt t.hour
  rw [valid_iff, tenths_eq, tenths_eq]
  unfold TodTime.increment
  by_cases h1 : t.tenth ≠ 9
  · obtain ⟨hnext, hlt⟩ := tenth_next t.tenth htenth h1
    rw [if_pos h1]
    dsimp only
    rw [hnext]
    exact ⟨⟨hlt, hsec, hmin, hhour⟩, by omega⟩
  · have ht9 : t.tenth.toNat = 9 := congrArg BitVec.toNat (not_not.mp h1)
    rw [if_neg h1]
    by_cases h2 : t.sec ≠ 0x59
    · obtain ⟨hvalid, hvalue, hlt⟩ := sixty_next t.sec hsec h2
      rw [if_pos h2]
      dsimp only
      rw [hvalue, ht9]
      exact ⟨⟨by decide, hvalid, hmin, hhour⟩, by simp; omega⟩
    · have hs59 : bcdValue t.sec = 59 := congrArg bcdValue (not_not.mp h2)
      have hzero : bcdValue 0 = 0 := rfl
      rw [if_neg h2]
      by_cases h3 : t.min ≠ 0x59
      · obtain ⟨hvalid, hvalue, hlt⟩ := sixty_next t.min hmin h3
        rw [if_pos h3]
        dsimp only
        rw [hvalue, ht9, hs59, hzero]
        exact ⟨⟨by decide, by unfold SixtyValid; decide, hvalid, hhour⟩, by simp; omega⟩
      · have hm59 : bcdValue t.min = 59 := congrArg bcdValue (not_not.mp h3)
        obtain ⟨hvalid, hvalue⟩ := hour_next t.hour hhour
        rw [if_neg h3]
        dsimp only
        rw [hvalue, ht9, hs59, hm59, hzero]
        exact ⟨⟨by decide, by unfold SixtyValid; decide, by unfold SixtyValid; decide, hvalid⟩, by simp; omega⟩

/-- Settles O59. -/
theorem gcrRoundTrip : Obligations.GcrRoundTrip :=
  ⟨gcrDecode_gcrEncode, fun id _ _ _ rest ht hn hd => readSector_written id rest ht hn hd⟩

end Sys2Proof.Proofs
end

section
/-!
PROOFS. A sprite's shift register (O52): one pixel that takes a bit, one that holds it, and 24 bits.
-/

namespace Sys2Proof.Machine

/-- What a single-colour sprite shows of its j-th bit. -/
def spriteBit (d : BitVec 24) (j : Nat) : BitVec 2 := if bit d (23 - j) then 2 else 0

section
variable {p : Sprite} {r : VicRegs} {n : Nat}

/-! ### One pixel (R851) -/

theorem topBit_pixel (b : Bool) : (bitOf b ++ (0 : BitVec 1) : BitVec 2) = if b then 2 else 0 := by cases b <;> rfl

theorem field_topBit (d : BitVec 24) : (field d 23 1 ++ (0 : BitVec 1) : BitVec 2) = spriteBit d 0 := by
  have hbit : field d 23 1 = bitOf (bit d 23) := eq_of_bit fun k hk => by
    obtain rfl : k = 0 := by omega
    rw [bit_field_one, bit_bitOf]
    rfl
  rw [hbit, topBit_pixel]
  rfl

/-- With X expansion the flip-flop alternates, and the sprite ends where no bit is left and the flip-flop is set. -/
def SpriteShift.ended (t : SpriteShift) (wide : Bool) : SpriteShift :=
  let t := if wide then { t with expFlop := !t.expFlop } else t
  if t.remainingBits == 0 && t.expFlop then { t with active := false } else t

theorem ended_eq {t : SpriteShift} {wide : Bool} (h : t.active = true) : t.ended wide = { t with
    expFlop := t.expFlop != wide
    active := !(t.remainingBits == 0 && t.expFlop != wide) } := by
  obtain ⟨data, chunk1, chunk2, chunk3, left, active, mcFlop, expFlop, colBits, matched⟩ := t
  obtain rfl := h
  unfold SpriteShift.ended
  cases wide <;> cases expFlop <;> cases h : left == 0 <;> simp [h]

theorem shift_of_active (h : p.ssr.active = true) : p.shift r n =
    let t := if p.ssr.expFlop then p.ssr.takeBit (bit r.mxmc n) else p.ssr
    ({ p with ssr := t.ended (bit r.mxxe n) }, t.colBits) := by
  rw [Sprite.shift, if_pos h]
  generalize (if p.ssr.expFlop = true then p.ssr.takeBit (bit r.mxmc n) else p.ssr) = t
  unfold SpriteShift.ended
  cases bit r.mxxe n <;> rfl

/-- A pixel that takes a bit: it is the last where no bit is left and the pixel is not held. -/
theorem shift_takes (hmc : bit r.mxmc n = false) (hactive : p.ssr.active = true) (hexp : p.ssr.expFlop = true) :
    p.shift r n = ({ p with ssr := { p.ssr with
      data := p.ssr.data <<< 1
      remainingBits := p.ssr.remainingBits - 1
      colBits := spriteBit p.ssr.data 0
      expFlop := !(bit r.mxxe n)
      active := !(p.ssr.remainingBits - 1 == 0 && !(bit r.mxxe n)) } }, spriteBit p.ssr.data 0) := by
  have htake : p.ssr.takeBit false = { p.ssr with
      data := p.ssr.data <<< 1
      remainingBits := p.ssr.remainingBits - 1
      colBits := spriteBit p.ssr.data 0 } := by
    rw [← field_topBit]
    rfl
  have hstill : (p.ssr.takeBit false).active = true := hactive
  rw [shift_of_active hactive, hexp, hmc, if_pos rfl]
  dsimp only
  rw [ended_eq hstill, htake]
  dsimp only
  rw [hexp, Bool.true_bne]

/-- A pixel that holds the bit of the one before. -/
theorem shift_holds (hwide : bit r.mxxe n = true) (hactive : p.ssr.active = true) (hexp : p.ssr.expFlop = false) :
    p.shift r n = ({ p with ssr := { p.ssr with expFlop := true, active := !(p.ssr.remainingBits == 0) } }, p.ssr.colBits) := by
  rw [shift_of_active hactive, hexp, hwide, if_neg Bool.false_ne_true]
  dsimp only
  rw [ended_eq hactive, hexp]
  simp

/-! ### Twenty-four bits -/

/-- The sprite after j bits, each shown in w pixels. -/
structure ShiftedBits (p : Sprite) (w j : Nat) (a : Sprite × List (BitVec 2)) : Prop where
  data : a.1.ssr.data = p.ssr.data <<< j
  left : a.1.ssr.remainingBits = 24 - j
  ready : a.1.ssr.expFlop = true
  active : a.1.ssr.active = decide (j < 24)
  shown : a.2 = (List.range (j * w)).map fun k => spriteBit p.ssr.data (k / w)

theorem spriteBit_shiftLeft (d : BitVec 24) {j : Nat} (hj : j < 24) : spriteBit (d <<< j) 0 = spriteBit d j := by
  have hge : ¬ 23 < j := by omega
  rw [spriteBit, spriteBit, bit_shiftLeft]
  simp [hge]

theorem shiftedBits_zero (w : Nat) (hactive : p.ssr.active = true) (hexp : p.ssr.expFlop = true) (hleft : p.ssr.remainingBits = 24) :
    ShiftedBits p w 0 (p, []) :=
  ⟨(BitVec.shiftLeft_zero _).symm, hleft, hexp, hactive, by rw [Nat.zero_mul]; rfl⟩

theorem isLast_iff {j : Nat} : (24 - j - 1 == 0) = !decide (j + 1 < 24) := by
  rw [Bool.eq_iff_iff]
  simp
  omega

/-- Without X expansion a pixel is a bit. -/
theorem shiftedBits_narrow {j : Nat} {q : Sprite × List (BitVec 2)} (hmc : bit r.mxmc n = false) (hnarrow : bit r.mxxe n = false) (hj : j < 24)
    (h : ShiftedBits p 1 j q) : ShiftedBits p 1 (j + 1) ((q.1.shift r n).1, q.2 ++ [(q.1.shift r n).2]) := by
  obtain ⟨hdata, hleft, hready, hactive, hshown⟩ := h
  rw [shift_takes hmc (hactive.trans (decide_eq_true hj)) hready]
  refine ⟨?_, ?_, ?_, ?_, ?_⟩
  · rw [hdata, BitVec.shiftLeft_add]
  · exact (congrArg (· - 1) hleft).trans (Nat.sub_sub ..)
  · rw [hnarrow]; rfl
  · rw [hleft, hnarrow, isLast_iff]; simp
  · rw [hshown, hdata, spriteBit_shiftLeft _ hj, Nat.add_mul, List.range_succ, List.map_append]
    simp

/-- With X expansion a bit is two pixels, and the sprite is active between them. -/
theorem shiftedBits_wide {j : Nat} {q : Sprite × List (BitVec 2)} (hmc : bit r.mxmc n = false) (hwide : bit r.mxxe n = true) (hj : j < 24)
    (h : ShiftedBits p 2 j q) : (q.1.shift r n).1.ssr.active = true ∧
      ShiftedBits p 2 (j + 1) (((q.1.shift r n).1.shift r n).1, (q.2 ++ [(q.1.shift r n).2]) ++ [((q.1.shift r n).1.shift r n).2]) := by
  obtain ⟨hdata, hleft, hready, hactive, hshown⟩ := h
  rw [shift_takes hmc (hactive.trans (decide_eq_true hj)) hready, hwide, Bool.not_true, Bool.and_false, Bool.not_false]
  refine ⟨rfl, ?_⟩
  rw [shift_holds hwide rfl rfl]
  refine ⟨?_, ?_, rfl, ?_, ?_⟩
  · rw [hdata, BitVec.shiftLeft_add]
  · exact (congrArg (· - 1) hleft).trans (Nat.sub_sub ..)
  · rw [hleft, isLast_iff]; simp
  · rw [hshown, hdata, spriteBit_shiftLeft _ hj, Nat.add_mul, List.range_succ, List.range_succ]
    have hodd : (j * 2 + 1) / 2 = j := by omega
    simp [hodd]

/-- Twenty-four bits without X expansion. -/
theorem shiftedBits_of_narrow (hmc : bit r.mxmc n = false) (hnarrow : bit r.mxxe n = false) (hactive : p.ssr.active = true)
    (hexp : p.ssr.expFlop = true) (hleft : p.ssr.remainingBits = 24) (j : Nat) (hj : j ≤ 24) :
    ShiftedBits p 1 j (Sprite.shifts r n (j * 1) p) := by
  induction j with
  | zero => exact shiftedBits_zero 1 hactive hexp hleft
  | succ j ih => exact shiftedBits_narrow hmc hnarrow hj (ih (Nat.le_of_lt hj))

/-- Twenty-four bits with X expansion. -/
theorem shiftedBits_of_wide (hmc : bit r.mxmc n = false) (hwide : bit r.mxxe n = true) (hactive : p.ssr.active = true)
    (hexp : p.ssr.expFlop = true) (hleft : p.ssr.remainingBits = 24) (j : Nat) (hj : j ≤ 24) :
    ShiftedBits p 2 j (Sprite.shifts r n (j * 2) p) := by
  induction j with
  | zero => exact shiftedBits_zero 2 hactive hexp hleft
  | succ j ih =>
    rw [Nat.add_mul]
    exact (shiftedBits_wide hmc hwide hj (ih (Nat.le_of_lt hj))).2

theorem getD_map_range {f : Nat → BitVec 2} {m k : Nat} (hk : k < m) : ((List.range m).map f).getD k 0 = f k := by
  simp [hk]

end

end Sys2Proof.Machine

namespace Sys2Proof.Proofs

open Sys2Proof Sys2Proof.Machine

/-- Settles O52, by whether the sprite is X-expanded: its state after each bit. -/
theorem spriteShift : Obligations.SpriteShift := by
  intro p r n _ hmc hactive hexp hleft wide
  cases hxxe : bit r.mxxe n
  · have hw : wide = 1 := by simp [wide, hxxe]
    have hbits := shiftedBits_of_narrow hmc hxxe hactive hexp hleft
    rw [hw]
    refine ⟨fun k hk => ?_, (hbits 24 (Nat.le_refl _)).active, fun k hk => ?_⟩
    · rw [(hbits 24 (Nat.le_refl _)).shown, getD_map_range hk]
      rfl
    · have hk24 : k < 24 := by omega
      have h := (hbits k hk24.le).active
      rw [Nat.mul_one] at h
      exact h.trans (decide_eq_true hk24)
  · have hw : wide = 2 := by simp [wide, hxxe]
    have hbits := shiftedBits_of_wide hmc hxxe hactive hexp hleft
    rw [hw]
    refine ⟨fun k hk => ?_, (hbits 24 (Nat.le_refl _)).active, fun k hk => ?_⟩
    · rw [(hbits 24 (Nat.le_refl _)).shown, getD_map_range hk]
      rfl
    · obtain ⟨j, rfl | rfl⟩ := Nat.even_or_odd' k <;> rw [Nat.mul_comm 2 j]
      · exact (hbits j (by omega)).active.trans (decide_eq_true (by omega))
      · exact (shiftedBits_wide hmc hxxe (by omega) (hbits j (by omega))).1

end Sys2Proof.Proofs
end

section
/-!
PROOFS. The underflow law of a CIA's timer A (O53): what of a CIA the timer and its interrupt are made of, what a tick does to it, and N
ticks.
-/

namespace Sys2Proof.Machine

/-! ### Timer A and its interrupt -/

/-- The stages that timer A and its interrupt use: CountA0 to CountA3, LoadA0, LoadA1, Interrupt0, Interrupt1, OneShotA0, SetIcr0, SetIcr1. -/
def stagesA : BitVec 64 := 0x181c030f

/-- What of a CIA timer A and its interrupt are made of. -/
structure TimerA where
  counter : BitVec 16
  latch : BitVec 16
  stages : BitVec 64
  feed : BitVec 64
  imr : Byte
  cause : Bool
  int : Bool

def Cia.timerA (x : Cia) : TimerA := ⟨x.counterA, x.latchA, x.delay &&& stagesA, x.feed &&& stagesA, x.imr, bit x.icr 0, x.int⟩

section
variable {v : BitVec 64} {i : Nat}

theorem bit_stagesA (h : bit stagesA i = true) : bit (v &&& stagesA) i = bit v i := by rw [bit_and, h, Bool.and_true]

/-- Another stage than those. -/
theorem withBit_otherStage (h : bit stagesA i = false) (b : Bool) : withBit v i b &&& stagesA = v &&& stagesA := by
  refine eq_of_bit fun k _ => ?_
  rw [bit_and, bit_and, bit_withBit]
  by_cases hk : k = i ∧ i < 64
  · rw [hk.1, h, Bool.and_false, Bool.and_false]
  · rw [if_neg hk]

/-- One of those stages. -/
theorem withBit_stageA (h : bit stagesA i = true) (b : Bool) : withBit v i b &&& stagesA = withBit (v &&& stagesA) i b := by
  refine eq_of_bit fun k _ => ?_
  rw [bit_and, bit_withBit, bit_withBit, bit_and]
  by_cases hk : k = i ∧ i < 64
  · rw [if_pos hk, if_pos hk, hk.1, h, Bool.and_true]
  · rw [if_neg hk, if_neg hk]

end

/-! ### The steps of a tick that leave it -/

section
variable (x : Cia)

theorem timerA_ite {p : Prop} [Decidable p] {y z : Cia} {a : TimerA} (hy : y.timerA = a) (hz : z.timerA = a) :
    (if p then y else z).timerA = a := by
  split
  · exact hy
  · exact hz

theorem timerA_schedule {i : Nat} (h : bit stagesA i = false) : (x.schedule i).timerA = x.timerA :=
  congrArg (fun d => TimerA.mk x.counterA x.latchA d (x.feed &&& stagesA) x.imr (bit x.icr 0) x.int) (withBit_otherStage h true)

theorem timerA_cancel {i : Nat} (h : bit stagesA i = false) : (x.cancel i).timerA = x.timerA :=
  congrArg (fun d => TimerA.mk x.counterA x.latchA d (x.feed &&& stagesA) x.imr (bit x.icr 0) x.int) (withBit_otherStage h false)

theorem timerA_setFeed {i : Nat} (h : bit stagesA i = false) (b : Bool) : (x.setFeed i b).timerA = x.timerA :=
  congrArg (fun f => TimerA.mk x.counterA x.latchA (x.delay &&& stagesA) f x.imr (bit x.icr 0) x.int) (withBit_otherStage h b)

theorem timerA_withIcr {k : Nat} (h : k ≠ 0) (b : Bool) : ({ x with icr := withBit x.icr k b } : Cia).timerA = x.timerA := by
  have hbit : bit (withBit x.icr k b) 0 = bit x.icr 0 := by
    rw [bit_withBit]
    exact if_neg fun hk => h hk.1.symm
  exact congrArg (fun c => TimerA.mk x.counterA x.latchA (x.delay &&& stagesA) (x.feed &&& stagesA) x.imr c x.int) hbit

theorem timerA_cascade : x.cascade.timerA = x.timerA := timerA_ite (timerA_schedule x rfl) rfl

theorem timerA_pb6Event : x.pb6Event.timerA = x.timerA :=
  timerA_ite (timerA_ite rfl (timerA_schedule { x with pb6Out := true } rfl)) rfl

theorem timerA_pb7Event : x.pb7Event.timerA = x.timerA :=
  timerA_ite (timerA_ite rfl (timerA_schedule { x with pb7Out := true } rfl)) rfl

theorem timerA_serialUnderflow : x.serialUnderflow.timerA = x.timerA :=
  timerA_ite (timerA_ite rfl (timerA_ite (timerA_schedule { x with serClk := true, serCounter := x.serCounter - 1 } rfl) rfl)) rfl

theorem timerA_stopB : x.stopB.timerA = x.timerA :=
  timerA_ite ((timerA_setFeed _ rfl false).trans ((timerA_cancel _ rfl).trans ((timerA_cancel _ rfl).trans
    (timerA_cancel { x with crb := withBit x.crb 0 false } rfl)))) rfl

theorem timerA_underflowB : x.underflowB.timerA = x.timerA :=
  (timerA_pb7Event _).trans ((timerA_schedule _ rfl).trans (timerA_stopB x))

theorem timerA_serialTick : x.serialTick.timerA = x.timerA := by
  unfold Cia.serialTick
  extract_lets a
  have ha : a.timerA = x.timerA := timerA_ite rfl rfl
  exact timerA_ite ha ha

theorem timerA_clearIr : x.clearIr.timerA = x.timerA := timerA_ite (timerA_withIcr x (by decide) false) rfl

/-- Another source, which the mask does not let interrupt. -/
theorem timerA_trigger {k : Nat} (h : k ≠ 0) (hmask : bit x.imr k = false) : (x.trigger k).timerA = x.timerA := by
  rw [Cia.trigger, hmask]
  exact timerA_withIcr x h true

end

/-! ### The steps of a tick that make it (R520) -/

namespace TimerA

def decrement (a : TimerA) : TimerA := { a with counter := if bit a.stages 3 then a.counter - 1 else a.counter }

def under (a : TimerA) : Bool := a.counter == 0 && bit a.stages 2

def load (a : TimerA) : TimerA := { a with stages := withBit a.stages 9 true }

def reload (a : TimerA) : TimerA := if bit a.stages 9 then { a with counter := a.latch, stages := withBit a.stages 2 false } else a

theorem imr_reload (a : TimerA) : a.reload.imr = a.imr := by
  rw [reload]
  split <;> rfl

def causes (a : TimerA) : TimerA := { a with cause := true, stages := withBit (withBit a.stages 18 true) 27 true }

def interrupts (a : TimerA) : TimerA := { a with int := bit a.stages 19 || a.int }

def shift (a : TimerA) : TimerA := { a with stages := ((a.stages <<< 1) &&& delayMask &&& stagesA) ||| a.feed }

/-- A tick, of timer A alone: `timerA_tick` ties it to the chip's. -/
def tick (a : TimerA) : TimerA :=
  let d := a.decrement
  let r := (if d.under then d.load else d).reload
  (if d.under then r.causes else r).interrupts.shift

end TimerA

section
variable (x : Cia)

theorem timerA_decrement : x.decrement.timerA = x.timerA.decrement := by
  have h : bit (x.delay &&& stagesA) 3 = bit x.delay 3 := bit_stagesA rfl
  unfold TimerA.decrement Cia.timerA
  dsimp only
  rw [h]
  rfl

theorem underA_eq : x.underA = x.timerA.under := by
  have h : bit (x.delay &&& stagesA) 2 = bit x.delay 2 := bit_stagesA rfl
  unfold TimerA.under Cia.timerA
  dsimp only
  rw [h]
  rfl

/-- Without the one-shot stage an underflow schedules the load alone. -/
theorem timerA_underflowA (h : bit (x.timerA.stages ||| x.timerA.feed) 20 = false) : x.underflowA.timerA = x.timerA.load := by
  have hone : bit (x.delay ||| x.feed) dOneShotA0 = false := by
    rw [bit_or] at h ⊢
    exact (congrArg₂ _ (bit_stagesA rfl) (bit_stagesA rfl)).symm.trans h
  have hstop : x.stopA = x := by rw [Cia.stopA, hone, if_neg Bool.false_ne_true]
  have hload : ∀ y : Cia, (y.schedule dLoadA1).timerA = y.timerA.load := fun y =>
    congrArg (fun d => TimerA.mk y.counterA y.latchA d (y.feed &&& stagesA) y.imr (bit y.icr 0) y.int) (withBit_stageA rfl true)
  rw [Cia.underflowA, hstop, timerA_serialUnderflow, timerA_pb6Event, hload, timerA_cascade]

theorem timerA_reload : x.reload.timerA = x.timerA.reload := by
  have hload : bit (x.delay &&& stagesA) 9 = bit x.delay 9 := bit_stagesA rfl
  have hloaded : (({ x with counterA := x.latchA } : Cia).cancel dCountA2).timerA =
      { x.timerA with counter := x.latchA, stages := withBit (x.delay &&& stagesA) 2 false } :=
    congrArg (fun d => TimerA.mk x.latchA x.latchA d (x.feed &&& stagesA) x.imr (bit x.icr 0) x.int) (withBit_stageA rfl false)
  unfold Cia.reload
  extract_lets a
  have ha : a.timerA = x.timerA.reload := by
    refine (apply_ite Cia.timerA ..).trans ?_
    rw [hloaded]
    exact (if_congr (iff_of_eq (congrArg (· = true) hload)) rfl rfl).symm
  exact timerA_ite ((timerA_cancel { a with counterB := a.latchB } rfl).trans ha) ha

theorem timerA_trigger_zero (himr : x.imr = 1) : (x.trigger 0).timerA = x.timerA.causes := by
  have hmask : bit x.imr 0 = true := by rw [himr]; rfl
  have hcause : bit (withBit x.icr 0 true) 0 = true := by simp [bit_withBit]
  have hstages : withBit (withBit x.delay 18 true) 27 true &&& stagesA = withBit (withBit (x.delay &&& stagesA) 18 true) 27 true := by
    rw [withBit_stageA rfl, withBit_stageA rfl]
  rw [Cia.trigger, hmask, if_pos rfl]
  exact congrArg₂ (fun d c => TimerA.mk x.counterA x.latchA d (x.feed &&& stagesA) x.imr c x.int) hstages hcause

theorem timerA_sources (himr : x.imr = 1) (underA underB : Bool) :
    (x.sources underA underB).timerA = if underA then x.timerA.causes else x.timerA := by
  unfold Cia.sources
  extract_lets a b c
  have ha : a.timerA = if underA then x.timerA.causes else x.timerA := by
    rw [← timerA_trigger_zero x himr]
    exact apply_ite Cia.timerA ..
  have himra : a.imr = 1 := by
    refine (congrArg TimerA.imr ha).trans ?_
    split <;> exact himr
  have hb : b.timerA = a.timerA := timerA_ite (timerA_trigger a (by decide) (by rw [himra]; rfl)) rfl
  have himrb : b.imr = 1 := (congrArg TimerA.imr hb).trans himra
  have hc : c.timerA = b.timerA := timerA_ite (timerA_trigger b (by decide) (by rw [himrb]; rfl)) rfl
  have himrc : c.imr = 1 := (congrArg TimerA.imr hc).trans himrb
  exact timerA_ite ((timerA_trigger c (by decide) (by rw [himrc]; rfl)).trans (hc.trans (hb.trans ha))) (hc.trans (hb.trans ha))

theorem timerA_delayedInterrupt : x.delayedInterrupt.timerA = x.timerA.interrupts := by
  have hint : bit x.delay dInterrupt1 = bit (x.delay &&& stagesA) 19 := (bit_stagesA rfl).symm
  have hcause : bit (if bit x.delay dSetIcr1 then withBit x.icr 7 true else x.icr) 0 = bit x.icr 0 := by
    split
    · rw [bit_withBit]; rfl
    · rfl
  rw [Cia.delayedInterrupt_eq, hint]
  exact congrArg (fun c => TimerA.mk x.counterA x.latchA (x.delay &&& stagesA) (x.feed &&& stagesA) x.imr c
    (bit (x.delay &&& stagesA) 19 || x.int)) hcause

/-- Each of the stages is stage 0 of its event or follows one of them. -/
theorem stagesA_closed : ∀ k : Fin 64, bit stagesA k = true → bit delayMask k = true → bit stagesA (k - 1 : Nat) = true := by decide

theorem timerA_shift : x.shift.timerA = x.timerA.shift := by
  have hstages : shiftDelay x.delay x.feed &&& stagesA = (((x.delay &&& stagesA) <<< 1) &&& delayMask &&& stagesA) ||| (x.feed &&& stagesA) := by
    refine eq_of_bit fun k hk => ?_
    simp only [shiftDelay, bit_and, bit_or, bit_shiftLeft]
    have hclosed := stagesA_closed ⟨k, hk⟩
    dsimp only at hclosed
    cases hs : bit stagesA k
    · simp
    · cases hm : bit delayMask k
      · simp
      · rw [hclosed hs hm]
        simp
  exact congrArg (fun d => TimerA.mk x.counterA x.latchA d (x.feed &&& stagesA) x.imr (bit x.icr 0) x.int) hstages

/-- A tick of the chip is one of timer A, where it counts on and its interrupt alone is enabled. -/
theorem timerA_tick (himr : x.imr = 1) (h : bit (x.timerA.stages ||| x.timerA.feed) 20 = false) : x.tick.timerA = x.timerA.tick := by
  rw [Cia.tick, timerA_shift]
  unfold Cia.tickBeforeShift
  extract_lets a uA uB b c
  have ha : a.timerA = x.timerA.decrement := timerA_decrement x
  have hu : uA = x.timerA.decrement.under := (underA_eq a).trans (congrArg TimerA.under ha)
  have hb : b.timerA = if uA then x.timerA.decrement.load else x.timerA.decrement := by
    rw [← ha, ← timerA_underflowA a (ha ▸ h)]
    exact apply_ite Cia.timerA ..
  have hc : c.timerA = b.timerA := timerA_ite (timerA_underflowB b) rfl
  generalize hy : c.reload.pulseEnds.serialTick.clearIr = y
  have hyA : y.timerA = b.timerA.reload := by
    rw [← hy, timerA_clearIr, timerA_serialTick]
    exact (timerA_reload c).trans (congrArg TimerA.reload hc)
  have hyimr : y.imr = 1 := by
    refine (congrArg TimerA.imr hyA).trans ((TimerA.imr_reload _).trans ((congrArg TimerA.imr hb).trans ?_))
    split <;> exact himr
  rw [timerA_delayedInterrupt, timerA_sources y hyimr, hyA, hb, hu]
  rfl

end

/-! ### The ticks of timer A (R521) -/

/-- CountA0 to CountA2, with CountA3 or not yet. -/
def countingStages (filled : Bool) : BitVec 64 := if filled then 0xf else 0x7

/-- Timer A counts phi2 on. -/
def countingA (filled : Bool) (c l : BitVec 16) : TimerA := ⟨c, l, countingStages filled, 0x1, 0x01, false, false⟩

/-- Timer A just reloaded by an underflow: CountA0 to CountA2 refill, and Interrupt1 and SetIcr1 are set. -/
def underflowedA (l : BitVec 16) : TimerA := ⟨l, l, 0x10080007, 0x1, 0x01, true, false⟩

/-- The counter after the decrement of a tick. -/
def nextCount (filled : Bool) (c : BitVec 16) : BitVec 16 := if filled then c - 1 else c

section
variable {filled : Bool} {c l : BitVec 16}

theorem decrement_countingA : (countingA filled c l).decrement = countingA filled (nextCount filled c) l := by
  have hcount : bit (countingStages filled) 3 = filled := by cases filled <;> rfl
  dsimp only [TimerA.decrement, countingA, nextCount]
  rw [hcount]

theorem under_countingA : (countingA filled c l).under = (c == 0) := by
  have hready : bit (countingStages filled) 2 = true := by cases filled <;> rfl
  dsimp only [TimerA.under, countingA]
  rw [hready, Bool.and_true]

theorem tick_counts (h : nextCount filled c ≠ 0) : (countingA filled c l).tick = countingA true (nextCount filled c) l := by
  have hload : bit (countingStages filled) 9 = false := by cases filled <;> rfl
  dsimp only [TimerA.tick]
  rw [decrement_countingA, under_countingA, beq_false_of_ne h, if_neg Bool.false_ne_true, if_neg Bool.false_ne_true]
  dsimp only [TimerA.reload, countingA]
  rw [hload, if_neg Bool.false_ne_true]
  dsimp only [TimerA.interrupts, TimerA.shift]
  cases filled <;> rfl

theorem tick_underflows (h : nextCount filled c = 0) : (countingA filled c l).tick = underflowedA l := by
  have hload : bit (withBit (countingStages filled) 9 true) 9 = true := by cases filled <;> rfl
  dsimp only [TimerA.tick]
  rw [decrement_countingA, under_countingA, h, beq_self_eq_true, if_pos rfl, if_pos rfl]
  dsimp only [TimerA.reload, TimerA.load, countingA]
  rw [hload, if_pos rfl]
  dsimp only [TimerA.causes, TimerA.interrupts, TimerA.shift]
  cases filled <;> rfl

/-- Whether or not timer A underflows again. -/
theorem tick_interrupts : (underflowedA l).tick.int = true := by
  have hload : bit (withBit 0x10080007 9 true : BitVec 64) 9 = true := rfl
  have hstay : bit (0x10080007 : BitVec 64) 9 = false := rfl
  dsimp only [TimerA.tick]
  cases (underflowedA l).decrement.under
  · rw [if_neg Bool.false_ne_true, if_neg Bool.false_ne_true]
    dsimp only [underflowedA, TimerA.decrement, TimerA.reload]
    rw [hstay, if_neg Bool.false_ne_true]
    dsimp only [TimerA.interrupts, TimerA.shift]
    rfl
  · rw [if_pos rfl, if_pos rfl]
    dsimp only [underflowedA, TimerA.decrement, TimerA.load, TimerA.reload]
    rw [hload, if_pos rfl]
    dsimp only [TimerA.causes, TimerA.interrupts, TimerA.shift]
    rfl

end

/-- Timer A after k ticks, whether or not its pipeline was filled. -/
def countedA (N k : Nat) : TimerA := countingA (k != 0) (BitVec.ofNat 16 (N - (k - 1))) (BitVec.ofNat 16 N)

section
variable {x : Cia} {N : Nat}

/-- A tick of a chip whose timer A counts or has underflowed just now. -/
theorem timerA_tick_of_eq {a : TimerA} (h : x.timerA = a) (himr : a.imr = 1) (hone : bit (a.stages ||| a.feed) 20 = false) :
    x.tick.timerA = a.tick := by
  rw [timerA_tick x ((congrArg TimerA.imr h).trans himr) (h ▸ hone), h]

theorem one_feed {f : BitVec 64} (hfeed : f &&& ~~~ stickyStages = 0) (hcount : bit f 0 = true) (hone : bit f 20 = false) :
    f &&& stagesA = 0x1 := by
  have hstages : ∀ k : Fin 64, (bit (~~~ stickyStages) k = true ∧ bit (0x1 : BitVec 64) k = false) ∨
      (bit stagesA k = false ∧ bit (0x1 : BitVec 64) k = false) ∨ k = 0 ∨ k = 20 := by decide
  refine eq_of_bit fun k hk => ?_
  rw [bit_and]
  obtain ⟨hother, h1⟩ | ⟨hnot, h1⟩ | h0 | h20 := hstages ⟨k, hk⟩
  · have hfk : bit f k = false := by
      have hbit := congrArg (bit · k) hfeed
      rw [bit_and, hother, Bool.and_true] at hbit
      exact hbit.trans (bit_zero k)
    rw [hfk, h1, Bool.false_and]
  · rw [hnot, h1, Bool.and_false]
  · obtain rfl : k = 0 := congrArg Fin.val h0
    rw [hcount]
    rfl
  · obtain rfl : k = 20 := congrArg Fin.val h20
    rw [hone]
    rfl

/-- The start of the law. -/
theorem timerA_start (hcounter : x.counterA = BitVec.ofNat 16 N) (hlatch : x.latchA = x.counterA) (himr : x.imr = 0x01) (hint : x.int = false)
    (hicr : bit x.icr 0 = false) (hdelay : x.delay &&& 0x181c030f = 0x7) (hfeed : x.feed &&& stagesA = 0x1) :
    x.timerA = countedA N 0 := by
  have hstages : x.delay &&& stagesA = 0x7 := hdelay
  rw [Cia.timerA, hlatch, hcounter, hstages, hfeed, himr, hicr, hint]
  rfl

/-- The counter that tick k + 1 tests is N - k. -/
theorem nextCount_ofNat {k : Nat} (hk : k < N) : nextCount true (BitVec.ofNat 16 (N - k)) = BitVec.ofNat 16 (N - (k + 1)) := by
  refine BitVec.eq_of_toNat_eq ?_
  have hone : (1 : BitVec 16).toNat = 1 := rfl
  simp only [nextCount, if_true, BitVec.toNat_sub, BitVec.toNat_ofNat, hone]
  omega

theorem ofNat_ne_zero {k : Nat} (hk : k < 2 ^ 16) (h : k ≠ 0) : BitVec.ofNat 16 k ≠ 0 := fun h0 => by
  have := congrArg BitVec.toNat h0
  rw [BitVec.toNat_ofNat, Nat.mod_eq_of_lt hk] at this
  exact h this

theorem nextCount_countedA {k : Nat} (hk : k ≤ N) :
    nextCount (k != 0) (BitVec.ofNat 16 (N - (k - 1))) = BitVec.ofNat 16 (N - k) := by
  cases k with
  | zero => rfl
  | succ k => exact nextCount_ofNat hk

/-- Its one-shot stage is off. -/
theorem one_countedA {k : Nat} : bit ((countedA N k).stages ||| (countedA N k).feed) 20 = false := by
  dsimp only [countedA, countingA]
  cases k != 0 <;> rfl

theorem timerA_ticks (hN : N < 2 ^ 16) (h : x.timerA = countedA N 0) (k : Nat) (hk : k ≤ N) : (Cia.ticks k x).timerA = countedA N k := by
  induction k with
  | zero => exact h
  | succ k ih =>
    have hnext := nextCount_countedA (Nat.le_of_lt hk)
    have hne : nextCount (k != 0) (BitVec.ofNat 16 (N - (k - 1))) ≠ 0 := hnext ▸ ofNat_ne_zero (by omega) (by omega)
    have htick := timerA_tick_of_eq (ih (Nat.le_of_lt hk)) rfl one_countedA
    exact htick.trans ((tick_counts hne).trans (by rw [hnext]; rfl))

/-- Timer A has underflowed in tick N + 1. -/
theorem timerA_ticks_succ (hN : N < 2 ^ 16) (h : x.timerA = countedA N 0) :
    (Cia.ticks (N + 1) x).timerA = underflowedA (BitVec.ofNat 16 N) := by
  have hnext := nextCount_countedA (Nat.le_refl N)
  rw [Nat.sub_self] at hnext
  have htick := timerA_tick_of_eq (timerA_ticks hN h N (Nat.le_refl N)) rfl one_countedA
  exact htick.trans (tick_underflows hnext)

end

end Sys2Proof.Machine

namespace Sys2Proof.Proofs

open Sys2Proof Sys2Proof.Machine

/-- Settles O53, from what a tick does to timer A and its interrupt: N ticks count, tick N + 1 underflows and tick N + 2 interrupts. -/
theorem ciaUnderflowLaw : Obligations.CiaUnderflowLaw := by
  intro x N hN hcounter hlatch himr hint hicr hdelay hfeed hcount hone
  have hstart := timerA_start hcounter hlatch himr hint hicr hdelay (one_feed hfeed hcount hone)
  have hunder := timerA_ticks_succ hN hstart
  have hclosed : stagesA &&& 0x30f = 0x30f := by decide
  have hstill : bit (0x10080007 ||| 0x1 : BitVec 64) 20 = false := by decide
  refine ⟨fun k hk => ?_, ⟨?_, ?_, ?_, ?_, ?_⟩, ?_⟩
  · have hk := timerA_ticks hN hstart k hk
    exact ⟨congrArg TimerA.cause hk, congrArg TimerA.int hk⟩
  · exact congrArg TimerA.cause hunder
  · exact congrArg TimerA.int hunder
  · exact (congrArg TimerA.counter hunder).trans hcounter.symm
  · exact (congrArg TimerA.latch hunder).trans (hlatch.trans hcounter).symm
  · calc (Cia.ticks (N + 1) x).delay &&& 0x30f
      _ = ((Cia.ticks (N + 1) x).delay &&& stagesA) &&& 0x30f := ((BitVec.and_assoc ..).trans (congrArg _ hclosed)).symm
      _ = 0x10080007 &&& 0x30f := congrArg (fun a : TimerA => a.stages &&& 0x30f) hunder
      _ = 0x7 := by decide
  · exact (congrArg TimerA.int (timerA_tick_of_eq hunder rfl hstill)).trans tick_interrupts

end Sys2Proof.Proofs
end
